-- ==== Sys2Proof/Word.lean ====
section
/-! DEFINITION. The widths the manual treats as bits: bytes of the control links, signed 24-bit audio
samples and EQ coefficients (refs: 00_scope 4.1, R4, R59, R186). -/

namespace Sys2Proof

/-- One byte of a control link (R186). -/
abbrev Byte := BitVec 8

/-- A signed 24-bit audio sample in two's complement (00_scope 4.1, R59). -/
abbrev Sample := BitVec 24

/-- A signed 24-bit EQ coefficient, read with 20 fraction bits (R4). -/
abbrev Coef := BitVec 24

/-- The value of a sample as the manual's arithmetic uses it. -/
abbrev sampleValue (x : Sample) : Int := x.toInt

end Sys2Proof
end

