-- ==== Sys2Proof/Syntax.lean ====
section
/-! DEFINITION. The commands of the block: one constructor of `Instr` per row of spec/opcode_table.json.

A row is either an event of the part (a frame mark, a sensor transaction that ends, …) or a command of a
control link, taken at its command event (R188). A command's operands are the values its payload carries
(R190), before any check: a structural value may lie outside its range, and a choice byte may name
neither of its two values. -/

namespace Sys2Proof

/-- A controlling port (00_scope 2.1), in the order R18 names them. -/
inductive Port where
  | P | V | C
  deriving DecidableEq, Repr

/-- One of the zones Z0 to Z31. -/
abbrev Zone := Fin 32

/-- The zone operand of a change command: a zone number as sent, or ALL (R19, R190). -/
inductive ZoneSel where
  | zone (n : Nat)
  | all
  deriving DecidableEq, Repr

/-- A choice byte (R190): the first value named in the defining table (yes, on, ACTIVE, ONE_SHOT,
RISING), the second (no, off, SHADOW, REPEAT, FALLING), or a byte that is neither. -/
inductive Choice where
  | first | second | neither
  deriving DecidableEq, Repr

/-- An edge of the TRIG line (R149). -/
inductive Edge where
  | rising | falling
  deriving DecidableEq, Repr

/-- One section of an EQ_BANK command (R19). -/
structure SectionArg where
  bypass : Choice
  b0 : Coef
  b1 : Coef
  b2 : Coef
  a1 : Coef
  a2 : Coef
  deriving DecidableEq, Repr

/-- The values of a GEOMETRY command (R19). -/
structure GeometryArg where
  pathLength : Int
  precedence : Int
  trim : Int
  weights : Vector Int 8
  reference : Option Nat
  deriving DecidableEq, Repr

/-- A coupling that is present in a COUPLING command (R19). -/
structure CouplingArg where
  leader : Nat
  offset : Int
  deriving DecidableEq, Repr

/-- The values of a TIMING command (R19). -/
structure TimingArg where
  slew : Int
  fadeLength : Int
  wakeTime : Int
  parkHang : Int
  deriving DecidableEq, Repr

/-- An allocation that is present in an ALLOCATE command (R61). -/
structure AllocArg where
  base : Nat
  count : Nat
  deriving DecidableEq, Repr

/-- The fields of PROBE_SETUP, in the order of R145. -/
structure ProbeArg where
  zone : Nat
  period : Int
  width : Int
  gain : Int
  threshold : Int
  window : Int
  source : Nat
  mode : Choice
  deriving DecidableEq, Repr

/-- The eight fields of SET_SYSTEM, in the order of R191. -/
structure SystemArg where
  tRef : Int
  deadband : Int
  bypassMax : Int
  wakeMax : Int
  wakeWindow : Int
  pollInterval : Int
  staleLimit : Int
  spikeLimit : Int
  deriving DecidableEq, Repr

/-- What the sensor bus did in a transaction (R77, R78): the clock was held low for more than 25 ms, the
address was not acknowledged, or the two data bytes were read. -/
inductive BusOutcome where
  | stuck
  | noAcknowledge
  | value (bits : BitVec 16)
  deriving DecidableEq, Repr

/-- The pieces of work the blocks do at a frame mark, whose order at one frame mark the manual leaves
open and resolves either way (R10, R11, R54, R69, R71, R136, R141). -/
inductive MarkWork where
  | transfer   -- the table's transfer and its change notices (R9)
  | slew       -- the slew steps of the delay lines (R68)
  | limiter    -- the wake limiter (R136)
  | gain       -- the naming of the gain code and the forming of the targets (R127, R104)
  | probe      -- the probe's watch on the delay at emission (R151)
  | amplifier  -- the transmission of the amplifier enables (R141)
  deriving DecidableEq, Repr

/-- The commands of the block, one constructor per row of spec/opcode_table.json. -/
inductive Instr where
  /-- COLD_RESET: power-on or RESET_N held low (R16). -/
  | coldReset
  /-- STARTUP_DONE: start-up load finishes (R177). -/
  | startupDone
  /-- FRAME_MARK (R9), with the order in which the blocks' work at this frame mark is taken. -/
  | frameMark (order : List MarkWork)
  /-- SAMPLE_PERIOD (R63), with the samples of slots S0 to S7 of the TDM input link. -/
  | samplePeriod (inputs : Vector Sample 8)
  /-- CHANGE_COMPLETE: the entry in hand completes (R30). -/
  | changeComplete
  /-- WAKE_TIME_ELAPSED (R138). -/
  | wakeTimeElapsed (z : Zone)
  /-- DRAIN_TIME_ELAPSED (R139). -/
  | drainTimeElapsed (z : Zone)
  /-- FADE_END (R122). -/
  | fadeEnd (z : Zone)
  /-- CROSSFADE_END (R100). -/
  | crossfadeEnd (z : Zone)
  /-- SUPERVISION_EXPIRY (R181). -/
  | supervisionExpiry
  /-- POLL_TIMER_EXPIRY (R81). -/
  | pollTimerExpiry
  /-- SENSOR_TRANSACTION_END (R78), with what the bus did. -/
  | sensorTransactionEnd (bus : BusOutcome)
  /-- SENSOR_STALE (R86). -/
  | sensorStale (slot : Fin 8)
  /-- TRIG_EDGE (R149). -/
  | trigEdge (edge : Edge)
  /-- PERIOD_OPEN (R151). -/
  | periodOpen
  /-- WINDOW_CLOSE (R153). -/
  | windowClose
  /-- PERIOD_END (R154). -/
  | periodEnd
  /-- ERASE_COMPLETE (R165), with the outcome of its verify. -/
  | eraseComplete (pass : Bool)
  /-- PROGRAM_COMPLETE (R166), with the outcome of its verify. -/
  | programComplete (pass : Bool)
  /-- LOCK_COMPLETE (R166), with its outcome. -/
  | lockComplete (pass : Bool)
  /-- SUSPENSION_EVENT (R170). -/
  | suspensionEvent
  /-- SCENE_READ_END (R171), with whether the contents were read back as they were programmed. -/
  | sceneReadEnd (sound : Bool)
  /-- FRAME_RECEIVED (R186): the receiver of a link judges the frame whose last byte has arrived. -/
  | frameReceived (p : Port)
  /-- LINK_GAP (R187). -/
  | linkGap (p : Port)
  /-- RESPONSE_SENT (R188). -/
  | responseSent (p : Port)
  /-- UNKNOWN_COMMAND (R189). -/
  | unknownCommand (p : Port) (cmd : Byte)
  /-- READ_RECORD (R14). -/
  | readRecord (p : Port) (zone : Nat) (copy : Choice)
  /-- GAIN (R20). -/
  | gain (p : Port) (zone : ZoneSel) (code : Int) (mute : Choice)
  /-- EQ_SELECT (R20). -/
  | eqSelect (p : Port) (zone : ZoneSel) (select : Nat)
  /-- EQ_BANK (R20). -/
  | eqBank (p : Port) (zone : ZoneSel) (bank : Nat) (sections : List SectionArg)
  /-- GEOMETRY (R20). -/
  | geometry (p : Port) (zone : ZoneSel) (values : GeometryArg)
  /-- COUPLING (R20). -/
  | coupling (p : Port) (zone : ZoneSel) (value : Option CouplingArg)
  /-- TIMING (R20). -/
  | timing (p : Port) (zone : ZoneSel) (values : TimingArg)
  /-- EVAC_GAIN (R20). -/
  | evacGain (p : Port) (zone : ZoneSel) (code : Int)
  /-- READ_QUEUE (R34). -/
  | readQueue (p : Port)
  /-- READ_TARGETS (R56). -/
  | readTargets (p : Port) (zones : List Nat)
  /-- ALLOCATE (R61). -/
  | allocate (p : Port) (zone : Nat) (allocation : Option AllocArg)
  /-- READ_DELAY_MAP (R73). -/
  | readDelayMap (p : Port)
  /-- SENSOR_SETUP (R87). -/
  | sensorSetup (p : Port) (slot : Nat) (enabled : Choice) (address : Nat)
  /-- SENSOR_MANUAL (R88). -/
  | sensorManual (p : Port) (slot : Nat) (value : Int)
  /-- SENSOR_AUTO (R89). -/
  | sensorAuto (p : Port) (slot : Nat)
  /-- READ_SENSORS (R90). -/
  | readSensors (p : Port)
  /-- CLEAR_CLIP (R108). -/
  | clearClip (p : Port) (zones : List Nat)
  /-- READ_CHAIN (R109). -/
  | readChain (p : Port) (zones : List Nat)
  /-- ROUTE_RAISE (R113). -/
  | routeRaise (p : Port) (zones : List Nat) (source : Nat) (level : Nat)
  /-- ROUTE_DROP (R116). -/
  | routeDrop (p : Port) (zones : List Nat) (source : Nat)
  /-- ROUTE_DROP_ALL (R117). -/
  | routeDropAll (p : Port)
  /-- READ_ROUTES (R128). -/
  | readRoutes (p : Port) (zones : List Nat)
  /-- ENABLE_ZONE (R131). -/
  | enableZone (p : Port) (zone : Nat)
  /-- DISABLE_ZONE (R132). -/
  | disableZone (p : Port) (zone : Nat)
  /-- READ_POWER (R142). -/
  | readPower (p : Port) (zones : List Nat)
  /-- PROBE_SETUP (R146). -/
  | probeSetup (p : Port) (values : ProbeArg)
  /-- PROBE_RUN (R148): without trigger, or waiting for the edge named. -/
  | probeRun (p : Port) (trigger : Option Choice)
  /-- PROBE_STOP (R157). -/
  | probeStop (p : Port)
  /-- PROBE_CLEAR (R157). -/
  | probeClear (p : Port)
  /-- PROBE_ADOPT (R159). -/
  | probeAdopt (p : Port) (zone : Nat)
  /-- READ_PROBE (R158). -/
  | readProbe (p : Port)
  /-- ERASE_SECTOR (R164). -/
  | eraseSector (p : Port) (sector : Nat)
  /-- STORE_ZONE (R164). -/
  | storeZone (p : Port) (zone : Nat)
  /-- STORE_SCENE (R164). -/
  | storeScene (p : Port) (scene : Nat)
  /-- STORE_SYSTEM (R164). -/
  | storeSystem (p : Port)
  /-- LOCK_ZONE (R164). -/
  | lockZone (p : Port) (zone : Nat)
  /-- RECALL_SCENE (R169). -/
  | recallScene (p : Port) (scene : Nat)
  /-- CLEAR_STORE_FAULTS (R167). -/
  | clearStoreFaults (p : Port)
  /-- OVERRIDE_LOCKS (R168). -/
  | overrideLocks (p : Port)
  /-- LOWER_OVERRIDE (R168). -/
  | lowerOverride (p : Port)
  /-- READ_STORE (R173). -/
  | readStore (p : Port)
  /-- SET_SYSTEM (R191). -/
  | setSystem (p : Port) (values : SystemArg)
  /-- READ_SYSTEM (R191). -/
  | readSystem (p : Port)
  /-- NOTE_SETUP (R184). -/
  | noteSetup (p : Port) (kind : Nat) (enable : Choice) (level : Int)
  /-- NOTE_READ (R183). -/
  | noteRead (p : Port)
  /-- NOTE_CLEAR (R185). -/
  | noteClear (p : Port) (kinds : List Nat)
  /-- SUPERVISE (R180). -/
  | supervise (p : Port) (timeout : Int)
  /-- SUPERVISE_END (R181). -/
  | superviseEnd (p : Port)
  /-- READ_STATUS (R192). -/
  | readStatus (p : Port)
  /-- RESTART (R193). -/
  | restart (p : Port)
  /-- BYTE_RECEIVED (R186), with whether its stop bit was high. -/
  | byteReceived (p : Port) (byte : Byte) (stopHigh : Bool)
  deriving DecidableEq, Repr

end Sys2Proof
end

