-- ==== Sys2Proof/WellFormed.lean ====
section
/-! DEFINITION. Which commands are well formed: every operand fits the encoding R190 gives its type. A
well-formed command may still be answered BAD_VALUE: the range of a field is checked when the command
is taken (R189). -/

namespace Sys2Proof

/-- A one-byte number (R190). -/
def fitsByte (n : Nat) : Bool := decide (n < 256)

/-- A two-byte number (R190). -/
def fitsWord (n : Nat) : Bool := decide (n < 65536)

/-- A numeric quantity, four bytes of signed two's complement (R190). -/
def fitsQuantity (x : Int) : Bool := decide (-2147483648 ≤ x ∧ x ≤ 2147483647)

/-- A zone operand that is not ALL takes a byte other than 0xFF (R190). -/
def ZoneSel.fits : ZoneSel → Bool
  | .zone n => decide (n < 255)
  | .all => true

/-- A zone set has a count of 0 to 32 (R190). -/
def fitsZoneSet (l : List Nat) : Bool := decide (l.length ≤ 32) && l.all fitsByte

/-- An optional part whose parts fit. -/
def fitsOption {α : Type} (f : α → Bool) : Option α → Bool
  | none => true
  | some a => f a

/-- Every operand of the command fits its encoding (R190). -/
def Instr.wellFormed : Instr → Bool
  | .frameMark order => decide order.Nodup
  | .unknownCommand _ cmd => decide (cmd.toNat = 0 ∨ 0x32 < cmd.toNat)
  | .readRecord _ z _ => fitsByte z
  | .gain _ z g _ => z.fits && fitsQuantity g
  | .eqSelect _ z s => z.fits && fitsByte s
  | .eqBank _ z b l => z.fits && fitsByte b && decide (l.length = 8)
  | .geometry _ z g =>
    z.fits && fitsQuantity g.pathLength && fitsQuantity g.precedence && fitsQuantity g.trim &&
      g.weights.toList.all fitsQuantity && fitsOption fitsByte g.reference
  | .coupling _ z k =>
    z.fits && fitsOption (fun k => fitsByte k.leader && fitsQuantity k.offset) k
  | .timing _ z t =>
    z.fits && fitsQuantity t.slew && fitsQuantity t.fadeLength && fitsQuantity t.wakeTime &&
      fitsQuantity t.parkHang
  | .evacGain _ z g => z.fits && fitsQuantity g
  | .readTargets _ l => fitsZoneSet l
  | .allocate _ z a =>
    fitsByte z && fitsOption (fun a => fitsWord a.base && fitsWord a.count) a
  | .sensorSetup _ n _ a => fitsByte n && fitsByte a
  | .sensorManual _ n v => fitsByte n && fitsQuantity v
  | .sensorAuto _ n => fitsByte n
  | .clearClip _ l => fitsZoneSet l
  | .readChain _ l => fitsZoneSet l
  | .routeRaise _ l src lvl => fitsZoneSet l && fitsByte src && fitsByte lvl
  | .routeDrop _ l src => fitsZoneSet l && fitsByte src
  | .readRoutes _ l => fitsZoneSet l
  | .enableZone _ z => fitsByte z
  | .disableZone _ z => fitsByte z
  | .readPower _ l => fitsZoneSet l
  | .probeSetup _ a =>
    fitsByte a.zone && fitsQuantity a.period && fitsQuantity a.width && fitsQuantity a.gain &&
      fitsQuantity a.threshold && fitsQuantity a.window && fitsByte a.source
  | .probeAdopt _ z => fitsByte z
  | .eraseSector _ n => fitsByte n
  | .storeZone _ z => fitsByte z
  | .storeScene _ n => fitsByte n
  | .lockZone _ z => fitsByte z
  | .recallScene _ n => fitsByte n
  | .setSystem _ a =>
    fitsQuantity a.tRef && fitsQuantity a.deadband && fitsQuantity a.bypassMax &&
      fitsQuantity a.wakeMax && fitsQuantity a.wakeWindow && fitsQuantity a.pollInterval &&
      fitsQuantity a.staleLimit && fitsQuantity a.spikeLimit
  | .noteSetup _ k _ l => fitsByte k && fitsQuantity l
  | .noteClear _ l => decide (l.length ≤ 255) && l.all fitsByte
  | .supervise _ t => fitsQuantity t
  | .coldReset | .startupDone | .samplePeriod _ | .changeComplete | .wakeTimeElapsed _
  | .drainTimeElapsed _ | .fadeEnd _ | .crossfadeEnd _ | .supervisionExpiry | .pollTimerExpiry
  | .sensorTransactionEnd _ | .sensorStale _ | .trigEdge _ | .periodOpen | .windowClose
  | .periodEnd | .eraseComplete _ | .programComplete _ | .lockComplete _ | .suspensionEvent
  | .sceneReadEnd _ | .frameReceived _ | .linkGap _ | .responseSent _ | .readQueue _
  | .readDelayMap _ | .readSensors _ | .routeDropAll _ | .probeRun _ _ | .probeStop _
  | .probeClear _ | .readProbe _ | .storeSystem _ | .clearStoreFaults _ | .overrideLocks _
  | .lowerOverride _ | .readStore _ | .readSystem _ | .noteRead _ | .superviseEnd _
  | .readStatus _ | .restart _ | .byteReceived _ _ _ => true

end Sys2Proof
end

