-- ==== Sys2Proof/Decode.lean ====
section
/-! DEFINITION. Command frames to commands, and commands to command frames (R189, R190).

spec/opcode_table.json gives no row any bits, so `decodeTableWord` answers none on every word. What the
part decodes is the CMD byte and the PAYLOAD of a command frame: `decodeCommand`, with `encodePayload`
beside it. -/

namespace Sys2Proof

/-! ### Values to bytes (R190) -/

/-- A one-byte value. -/
def byteOf (n : Nat) : Byte := BitVec.ofNat 8 n

/-- Two bytes, most significant first. -/
def bytes2 (n : Nat) : List Byte := [byteOf (n / 256), byteOf n]

/-- A numeric quantity: four bytes of signed two's complement, most significant first. -/
def bytes4 (x : Int) : List Byte :=
  let n := (BitVec.ofInt 32 x).toNat
  [byteOf (n / 16777216), byteOf (n / 65536), byteOf (n / 256), byteOf n]

/-- An EQ coefficient: three bytes of signed two's complement, most significant first. -/
def bytes3 (c : Coef) : List Byte :=
  let n := c.toNat
  [byteOf (n / 65536), byteOf (n / 256), byteOf n]

/-- A choice byte; a choice that names neither value is sent as 0x02. -/
def bytesChoice : Choice → List Byte
  | .first => [0#8]
  | .second => [1#8]
  | .neither => [2#8]

/-- A zone operand where the command allows ALL. -/
def bytesZoneSel : ZoneSel → List Byte
  | .zone n => [byteOf n]
  | .all => [0xFF#8]

/-- An optional part: a presence byte, then the parts when present. -/
def bytesOption {α : Type} (f : α → List Byte) : Option α → List Byte
  | none => [0#8]
  | some a => 1#8 :: f a

/-- A list or a zone set: a count, then the items. -/
def bytesList {α : Type} (f : α → List Byte) (l : List α) : List Byte :=
  byteOf l.length :: l.flatMap f

/-- One section of an EQ_BANK command. -/
def bytesSectionArg (s : SectionArg) : List Byte :=
  bytesChoice s.bypass ++ bytes3 s.b0 ++ bytes3 s.b1 ++ bytes3 s.b2 ++ bytes3 s.a1 ++ bytes3 s.a2

/-! ### Bytes to values (R190) -/

/-- A reader of payload bytes: the value read and the bytes left, or none where the bytes do not hold
one. -/
abbrev Reader (α : Type) := List Byte → Option (α × List Byte)

/-- A one-byte number. -/
def readByte : Reader Nat
  | b :: r => some (b.toNat, r)
  | [] => none

/-- Two bytes, most significant first. -/
def readWord : Reader Nat
  | a :: b :: r => some (a.toNat * 256 + b.toNat, r)
  | _ => none

/-- A numeric quantity. -/
def readQuantity : Reader Int
  | a :: b :: c :: d :: r => some ((a ++ b ++ c ++ d : BitVec 32).toInt, r)
  | _ => none

/-- An EQ coefficient. -/
def readCoef : Reader Coef
  | a :: b :: c :: r => some (a ++ b ++ c, r)
  | _ => none

/-- A choice byte. -/
def readChoice : Reader Choice
  | b :: r => some (if b = 0#8 then .first else if b = 1#8 then .second else .neither, r)
  | [] => none

/-- A zone operand where the command allows ALL. -/
def readZoneSel : Reader ZoneSel
  | b :: r => some (if b = 0xFF#8 then .all else .zone b.toNat, r)
  | [] => none

/-- An optional part; a presence byte that is neither 0x00 nor 0x01 is malformed. -/
def readOption {α : Type} (f : Reader α) : Reader (Option α)
  | b :: r =>
    if b = 0#8 then some (none, r)
    else if b = 1#8 then (f r).map fun (a, r) => (some a, r)
    else none
  | [] => none

/-- n items one after another. -/
def readTimes {α : Type} (f : Reader α) : Nat → Reader (List α)
  | 0, r => some ([], r)
  | n + 1, r => do
    let (a, r) ← f r
    let (l, r) ← readTimes f n r
    some (a :: l, r)

/-- A list of bytes with its count. -/
def readList : Reader (List Nat)
  | b :: r => readTimes readByte b.toNat r
  | [] => none

/-- A zone set: a count above 32 is malformed. -/
def readZoneSet : Reader (List Nat)
  | b :: r => if b.toNat ≤ 32 then readTimes readByte b.toNat r else none
  | [] => none

/-- Eight weights. -/
def readWeights : Reader (Vector Int 8) := fun r => do
  let (l, r) ← readTimes readQuantity 8 r
  if h : l.length = 8 then some (⟨⟨l⟩, h⟩, r) else none

/-- One section of an EQ_BANK command. -/
def readSectionArg : Reader SectionArg := fun r => do
  let (bypass, r) ← readChoice r
  let (b0, r) ← readCoef r
  let (b1, r) ← readCoef r
  let (b2, r) ← readCoef r
  let (a1, r) ← readCoef r
  let (a2, r) ← readCoef r
  some ({ bypass, b0, b1, b2, a1, a2 }, r)

/-- The whole payload has been read: a length that does not match the parameters is malformed (R189). -/
def readAll {α : Type} (f : Reader α) (payload : List Byte) : Option α :=
  match f payload with
  | some (a, []) => some a
  | _ => none

/-! ### The parameters of each command, in the order its rule lists them -/

/-- A command without parameters. -/
def payloadNone (i : Instr) : List Byte → Option Instr
  | [] => some i
  | _ => none

/-- The parameters of GEOMETRY (R19). -/
def readGeometry : Reader GeometryArg := fun r => do
  let (pathLength, r) ← readQuantity r
  let (precedence, r) ← readQuantity r
  let (trim, r) ← readQuantity r
  let (weights, r) ← readWeights r
  let (reference, r) ← readOption readByte r
  some ({ pathLength, precedence, trim, weights, reference }, r)

/-- A coupling that is present (R19). -/
def readCoupling : Reader CouplingArg := fun r => do
  let (leader, r) ← readByte r
  let (offset, r) ← readQuantity r
  some ({ leader, offset }, r)

/-- The parameters of TIMING (R19). -/
def readTiming : Reader TimingArg := fun r => do
  let (slew, r) ← readQuantity r
  let (fadeLength, r) ← readQuantity r
  let (wakeTime, r) ← readQuantity r
  let (parkHang, r) ← readQuantity r
  some ({ slew, fadeLength, wakeTime, parkHang }, r)

/-- An allocation that is present (R61). -/
def readAlloc : Reader AllocArg := fun r => do
  let (base, r) ← readWord r
  let (count, r) ← readWord r
  some ({ base, count }, r)

/-- The parameters of PROBE_SETUP (R145). -/
def readProbeArg : Reader ProbeArg := fun r => do
  let (zone, r) ← readByte r
  let (period, r) ← readQuantity r
  let (width, r) ← readQuantity r
  let (gain, r) ← readQuantity r
  let (threshold, r) ← readQuantity r
  let (window, r) ← readQuantity r
  let (source, r) ← readByte r
  let (mode, r) ← readChoice r
  some ({ zone, period, width, gain, threshold, window, source, mode }, r)

/-- The parameters of SET_SYSTEM (R191). -/
def readSystemArg : Reader SystemArg := fun r => do
  let (tRef, r) ← readQuantity r
  let (deadband, r) ← readQuantity r
  let (bypassMax, r) ← readQuantity r
  let (wakeMax, r) ← readQuantity r
  let (wakeWindow, r) ← readQuantity r
  let (pollInterval, r) ← readQuantity r
  let (staleLimit, r) ← readQuantity r
  let (spikeLimit, r) ← readQuantity r
  some ({ tRef, deadband, bypassMax, wakeMax, wakeWindow, pollInterval, staleLimit, spikeLimit }, r)

/-- Two values one after another. -/
def readPair {α β : Type} (f : Reader α) (g : Reader β) : Reader (α × β) := fun r => do
  let (a, r) ← f r
  let (b, r) ← g r
  some ((a, b), r)

/-- The command a payload carries under a CMD code of the table of R189; none where the payload is
malformed or the code names no command. -/
def decodePayload (p : Port) (code : Nat) (payload : List Byte) : Option Instr :=
  match code with
  | 0x01 => (readAll (readPair readByte readChoice) payload).map fun (z, c) => .readRecord p z c
  | 0x02 =>
    (readAll (readPair readZoneSel (readPair readQuantity readChoice)) payload).map
      fun (z, g, m) => .gain p z g m
  | 0x03 => (readAll (readPair readZoneSel readByte) payload).map fun (z, s) => .eqSelect p z s
  | 0x04 =>
    (readAll (readPair readZoneSel (readPair readByte (readTimes readSectionArg 8))) payload).map
      fun (z, b, l) => .eqBank p z b l
  | 0x05 => (readAll (readPair readZoneSel readGeometry) payload).map fun (z, g) => .geometry p z g
  | 0x06 =>
    (readAll (readPair readZoneSel (readOption readCoupling)) payload).map
      fun (z, k) => .coupling p z k
  | 0x07 => (readAll (readPair readZoneSel readTiming) payload).map fun (z, t) => .timing p z t
  | 0x08 => (readAll (readPair readZoneSel readQuantity) payload).map fun (z, g) => .evacGain p z g
  | 0x09 => payloadNone (.readQueue p) payload
  | 0x0A => (readAll readZoneSet payload).map fun l => .readTargets p l
  | 0x0B =>
    (readAll (readPair readByte (readOption readAlloc)) payload).map fun (z, a) => .allocate p z a
  | 0x0C => payloadNone (.readDelayMap p) payload
  | 0x0D =>
    (readAll (readPair readByte (readPair readChoice readByte)) payload).map
      fun (n, e, a) => .sensorSetup p n e a
  | 0x0E => (readAll (readPair readByte readQuantity) payload).map fun (n, v) => .sensorManual p n v
  | 0x0F => (readAll readByte payload).map fun n => .sensorAuto p n
  | 0x10 => payloadNone (.readSensors p) payload
  | 0x11 => (readAll readZoneSet payload).map fun l => .clearClip p l
  | 0x12 => (readAll readZoneSet payload).map fun l => .readChain p l
  | 0x13 =>
    (readAll (readPair readZoneSet (readPair readByte readByte)) payload).map
      fun (l, src, lvl) => .routeRaise p l src lvl
  | 0x14 => (readAll (readPair readZoneSet readByte) payload).map fun (l, src) => .routeDrop p l src
  | 0x15 => payloadNone (.routeDropAll p) payload
  | 0x16 => (readAll readZoneSet payload).map fun l => .readRoutes p l
  | 0x17 => (readAll readByte payload).map fun z => .enableZone p z
  | 0x18 => (readAll readByte payload).map fun z => .disableZone p z
  | 0x19 => (readAll readZoneSet payload).map fun l => .readPower p l
  | 0x1A => (readAll readProbeArg payload).map fun a => .probeSetup p a
  | 0x1B => (readAll (readOption readChoice) payload).map fun t => .probeRun p t
  | 0x1C => payloadNone (.probeStop p) payload
  | 0x1D => payloadNone (.probeClear p) payload
  | 0x1E => (readAll readByte payload).map fun z => .probeAdopt p z
  | 0x1F => payloadNone (.readProbe p) payload
  | 0x20 => (readAll readByte payload).map fun n => .eraseSector p n
  | 0x21 => (readAll readByte payload).map fun z => .storeZone p z
  | 0x22 => (readAll readByte payload).map fun n => .storeScene p n
  | 0x23 => payloadNone (.storeSystem p) payload
  | 0x24 => (readAll readByte payload).map fun z => .lockZone p z
  | 0x25 => (readAll readByte payload).map fun n => .recallScene p n
  | 0x26 => payloadNone (.clearStoreFaults p) payload
  | 0x27 => payloadNone (.overrideLocks p) payload
  | 0x28 => payloadNone (.lowerOverride p) payload
  | 0x29 => payloadNone (.readStore p) payload
  | 0x2A => (readAll readSystemArg payload).map fun a => .setSystem p a
  | 0x2B => payloadNone (.readSystem p) payload
  | 0x2C =>
    (readAll (readPair readByte (readPair readChoice readQuantity)) payload).map
      fun (k, e, l) => .noteSetup p k e l
  | 0x2D => payloadNone (.noteRead p) payload
  | 0x2E => (readAll readList payload).map fun l => .noteClear p l
  | 0x2F => (readAll readQuantity payload).map fun t => .supervise p t
  | 0x30 => payloadNone (.superviseEnd p) payload
  | 0x31 => payloadNone (.readStatus p) payload
  | 0x32 => payloadNone (.restart p) payload
  | _ => none

/-- A CMD byte that names a command of the table of R189. -/
def namesCommand (cmd : Byte) : Bool := decide (1 ≤ cmd.toNat ∧ cmd.toNat ≤ 0x32)

/-- What a frame asks for. -/
inductive Asked where
  | unknown                -- its CMD names no command
  | malformed              -- its payload does not hold the command's parameters
  | command (i : Instr)
  deriving DecidableEq, Repr

/-- What a frame taken from the link of port p asks for (R189, R190). -/
def decodeCommand (p : Port) (cmd : Byte) (payload : List Byte) : Asked :=
  if namesCommand cmd then
    match decodePayload p cmd.toNat payload with
    | some i => .command i
    | none => .malformed
  else .unknown

/-- The code of a command in the table of R189, and none for a row that is no command of the table. -/
def commandCode : Instr → Option Nat
  | .readRecord .. => some 0x01
  | .gain .. => some 0x02
  | .eqSelect .. => some 0x03
  | .eqBank .. => some 0x04
  | .geometry .. => some 0x05
  | .coupling .. => some 0x06
  | .timing .. => some 0x07
  | .evacGain .. => some 0x08
  | .readQueue .. => some 0x09
  | .readTargets .. => some 0x0A
  | .allocate .. => some 0x0B
  | .readDelayMap .. => some 0x0C
  | .sensorSetup .. => some 0x0D
  | .sensorManual .. => some 0x0E
  | .sensorAuto .. => some 0x0F
  | .readSensors .. => some 0x10
  | .clearClip .. => some 0x11
  | .readChain .. => some 0x12
  | .routeRaise .. => some 0x13
  | .routeDrop .. => some 0x14
  | .routeDropAll .. => some 0x15
  | .readRoutes .. => some 0x16
  | .enableZone .. => some 0x17
  | .disableZone .. => some 0x18
  | .readPower .. => some 0x19
  | .probeSetup .. => some 0x1A
  | .probeRun .. => some 0x1B
  | .probeStop .. => some 0x1C
  | .probeClear .. => some 0x1D
  | .probeAdopt .. => some 0x1E
  | .readProbe .. => some 0x1F
  | .eraseSector .. => some 0x20
  | .storeZone .. => some 0x21
  | .storeScene .. => some 0x22
  | .storeSystem .. => some 0x23
  | .lockZone .. => some 0x24
  | .recallScene .. => some 0x25
  | .clearStoreFaults .. => some 0x26
  | .overrideLocks .. => some 0x27
  | .lowerOverride .. => some 0x28
  | .readStore .. => some 0x29
  | .setSystem .. => some 0x2A
  | .readSystem .. => some 0x2B
  | .noteSetup .. => some 0x2C
  | .noteRead .. => some 0x2D
  | .noteClear .. => some 0x2E
  | .supervise .. => some 0x2F
  | .superviseEnd .. => some 0x30
  | .readStatus .. => some 0x31
  | .restart .. => some 0x32
  | .coldReset | .startupDone | .frameMark .. | .samplePeriod .. | .changeComplete
  | .wakeTimeElapsed .. | .drainTimeElapsed .. | .fadeEnd .. | .crossfadeEnd ..
  | .supervisionExpiry | .pollTimerExpiry | .sensorTransactionEnd .. | .sensorStale ..
  | .trigEdge .. | .periodOpen | .windowClose | .periodEnd | .eraseComplete ..
  | .programComplete .. | .lockComplete .. | .suspensionEvent | .sceneReadEnd ..
  | .frameReceived .. | .linkGap .. | .responseSent .. | .unknownCommand .. | .byteReceived .. =>
    none

/-- The payload of a command: its parameters in the order its rule lists them (R190). -/
def encodePayload : Instr → List Byte
  | .readRecord _ z c => byteOf z :: bytesChoice c
  | .gain _ z g m => bytesZoneSel z ++ bytes4 g ++ bytesChoice m
  | .eqSelect _ z s => bytesZoneSel z ++ [byteOf s]
  | .eqBank _ z b l => bytesZoneSel z ++ [byteOf b] ++ l.flatMap bytesSectionArg
  | .geometry _ z g =>
    bytesZoneSel z ++ bytes4 g.pathLength ++ bytes4 g.precedence ++ bytes4 g.trim ++
      g.weights.toList.flatMap bytes4 ++ bytesOption (fun n => [byteOf n]) g.reference
  | .coupling _ z k =>
    bytesZoneSel z ++ bytesOption (fun k => byteOf k.leader :: bytes4 k.offset) k
  | .timing _ z t =>
    bytesZoneSel z ++ bytes4 t.slew ++ bytes4 t.fadeLength ++ bytes4 t.wakeTime ++ bytes4 t.parkHang
  | .evacGain _ z g => bytesZoneSel z ++ bytes4 g
  | .readTargets _ l => bytesList (fun n => [byteOf n]) l
  | .allocate _ z a => byteOf z :: bytesOption (fun a => bytes2 a.base ++ bytes2 a.count) a
  | .sensorSetup _ n e a => byteOf n :: (bytesChoice e ++ [byteOf a])
  | .sensorManual _ n v => byteOf n :: bytes4 v
  | .sensorAuto _ n => [byteOf n]
  | .clearClip _ l => bytesList (fun n => [byteOf n]) l
  | .readChain _ l => bytesList (fun n => [byteOf n]) l
  | .routeRaise _ l src lvl => bytesList (fun n => [byteOf n]) l ++ [byteOf src, byteOf lvl]
  | .routeDrop _ l src => bytesList (fun n => [byteOf n]) l ++ [byteOf src]
  | .readRoutes _ l => bytesList (fun n => [byteOf n]) l
  | .enableZone _ z => [byteOf z]
  | .disableZone _ z => [byteOf z]
  | .readPower _ l => bytesList (fun n => [byteOf n]) l
  | .probeSetup _ a =>
    byteOf a.zone :: (bytes4 a.period ++ bytes4 a.width ++ bytes4 a.gain ++ bytes4 a.threshold ++
      bytes4 a.window ++ [byteOf a.source] ++ bytesChoice a.mode)
  | .probeRun _ t => bytesOption bytesChoice t
  | .probeAdopt _ z => [byteOf z]
  | .eraseSector _ n => [byteOf n]
  | .storeZone _ z => [byteOf z]
  | .storeScene _ n => [byteOf n]
  | .lockZone _ z => [byteOf z]
  | .recallScene _ n => [byteOf n]
  | .setSystem _ a =>
    bytes4 a.tRef ++ bytes4 a.deadband ++ bytes4 a.bypassMax ++ bytes4 a.wakeMax ++
      bytes4 a.wakeWindow ++ bytes4 a.pollInterval ++ bytes4 a.staleLimit ++ bytes4 a.spikeLimit
  | .noteSetup _ k e l => byteOf k :: (bytesChoice e ++ bytes4 l)
  | .noteClear _ l => bytesList (fun n => [byteOf n]) l
  | .supervise _ t => bytes4 t
  | .readQueue _ | .readDelayMap _ | .readSensors _ | .routeDropAll _ | .probeStop _
  | .probeClear _ | .readProbe _ | .storeSystem _ | .clearStoreFaults _ | .overrideLocks _
  | .lowerOverride _ | .readStore _ | .readSystem _ | .noteRead _ | .superviseEnd _
  | .readStatus _ | .restart _ | .coldReset | .startupDone | .frameMark _ | .samplePeriod _
  | .changeComplete | .wakeTimeElapsed _ | .drainTimeElapsed _ | .fadeEnd _ | .crossfadeEnd _
  | .supervisionExpiry | .pollTimerExpiry | .sensorTransactionEnd _ | .sensorStale _
  | .trigEdge _ | .periodOpen | .windowClose | .periodEnd | .eraseComplete _
  | .programComplete _ | .lockComplete _ | .suspensionEvent | .sceneReadEnd _
  | .frameReceived _ | .linkGap _ | .responseSent _ | .unknownCommand _ _
  | .byteReceived _ _ _ => []

/-- The port that issues a command of the table of R189. -/
def commandPort : Instr → Option Port
  | .readRecord p _ _ | .gain p _ _ _ | .eqSelect p _ _ | .eqBank p _ _ _ | .geometry p _ _
  | .coupling p _ _ | .timing p _ _ | .evacGain p _ _ | .readQueue p | .readTargets p _
  | .allocate p _ _ | .readDelayMap p | .sensorSetup p _ _ _ | .sensorManual p _ _
  | .sensorAuto p _ | .readSensors p | .clearClip p _ | .readChain p _ | .routeRaise p _ _ _
  | .routeDrop p _ _ | .routeDropAll p | .readRoutes p _ | .enableZone p _ | .disableZone p _
  | .readPower p _ | .probeSetup p _ | .probeRun p _ | .probeStop p | .probeClear p
  | .probeAdopt p _ | .readProbe p | .eraseSector p _ | .storeZone p _ | .storeScene p _
  | .storeSystem p | .lockZone p _ | .recallScene p _ | .clearStoreFaults p | .overrideLocks p
  | .lowerOverride p | .readStore p | .setSystem p _ | .readSystem p | .noteSetup p _ _ _
  | .noteRead p | .noteClear p _ | .supervise p _ | .superviseEnd p | .readStatus p
  | .restart p => some p
  | .coldReset | .startupDone | .frameMark _ | .samplePeriod _ | .changeComplete
  | .wakeTimeElapsed _ | .drainTimeElapsed _ | .fadeEnd _ | .crossfadeEnd _
  | .supervisionExpiry | .pollTimerExpiry | .sensorTransactionEnd _ | .sensorStale _
  | .trigEdge _ | .periodOpen | .windowClose | .periodEnd | .eraseComplete _
  | .programComplete _ | .lockComplete _ | .suspensionEvent | .sceneReadEnd _
  | .frameReceived _ | .linkGap _ | .responseSent _ | .unknownCommand _ _
  | .byteReceived _ _ _ => none

/-- The command a word of spec/opcode_table.json spells: the table gives no row any bits, so none. -/
def decodeTableWord (_nbits _w : Nat) : Option Instr := none

end Sys2Proof
end

