-- ==== Sys2Proof/Config.lean ====
section
/-! DEFINITION. The fixed numbers of the part, each with the rule that gives it. The manual leaves no
value to the implementation, so this file holds no free value. -/

namespace Sys2Proof.Config

/-- Sample periods in one frame (00_scope section 3, "frame"). -/
def samplesPerFrame : Nat := 48
/-- Fine units in one sample period (00_scope section 3, "fine unit"). -/
def finePerSample : Nat := 64
/-- Fine units in one frame, the divisor of the flush length (R72). -/
def finePerFrame : Nat := 3072
/-- Fine units in one second, 48,000 × 64 (R43). -/
def finePerSecond : Nat := 3072000
/-- Samples in one page of delay memory (R59). -/
def pageSamples : Nat := 1024
/-- Pages of delay memory (R59). -/
def pages : Nat := 512
/-- Samples of delay memory, 512 × 1,024 (R59). -/
def memorySamples : Nat := 524288
/-- Places of the change queue (R18). -/
def queuePlaces : Nat := 32
/-- Places ports P and C together may fill (R18, R24). -/
def queuePlacesPC : Nat := 28
/-- Entries a route set may hold (R111). -/
def routePlaces : Nat := 6
/-- Samples of a fade toward an evacuation level, 8 frames (R121). -/
def evacFade : Nat := 384
/-- Samples of an EQ crossfade, 16 frames (R100). -/
def crossfadeLength : Nat := 768
/-- The greatest magnitude of a 24-bit sample on the positive side (00_scope 4.1). -/
def sampleMax : Int := 8388607
/-- The least 24-bit sample (00_scope 4.1). -/
def sampleMin : Int := -8388608
/-- The gain factor of 0 dB, 2^22 (R103, R106). -/
def unityFactor : Nat := 4194304
/-- Full scale of the probe's pulse (R151). -/
def pulseScale : Nat := 8388607
/-- The speed of sound at 0 °C in mm/s (R42). -/
def soundBase : Int := 331300
/-- Where the per-frame counters of states and sensors stay when reached (R79, R130). -/
def frameCountMax : Nat := 65535000
/-- Where the clip counter stays when reached (R107). -/
def clipMax : Nat := 65535
/-- Where an erase count stays when reached (R161). -/
def eraseCountMax : Nat := 65535
/-- Where an occurrence count stays when reached (R182). -/
def noteCountMax : Nat := 255
/-- Results the probe's list holds (R153). -/
def probeResults : Nat := 16
/-- Recalls the recall queue holds (R163, R169). -/
def recallPlaces : Nat := 4
/-- Frames a link's receive buffer holds (R188). -/
def bufferPlaces : Nat := 2
/-- The first byte of every frame (R186). -/
def syncByte : Nat := 0xA5
/-- The greatest LENGTH of a command frame (R186). -/
def lengthMax : Nat := 257
/-- Frame marks counted as one second (R81, R86). -/
def framesPerSecond : Nat := 1000
/-- The stated duration of an erase phase in ms (R162). -/
def eraseMs : Nat := 50
/-- The stated duration of the program phase of a zone sector in ms (R162). -/
def programZoneMs : Nat := 12
/-- The stated duration of the program phase of a scene or the system sector in ms (R162). -/
def programSmallMs : Nat := 4
/-- The stated duration of a lock phase in ms (R162). -/
def lockMs : Nat := 2

end Sys2Proof.Config
end

