-- ==== Sys2Proof/Machine/State.lean ====
section
/-! DEFINITION. The state of the part, block by block, as the manual gives it (00_scope 2.2), and the
state right after a cold reset. Fields the manual does not name are marked "the model's own". -/

namespace Sys2Proof.Machine

/-! ### Stops -/

/-- Why a step stops with a fault. -/
inductive Fault where
  /-- Raised by SAMPLE_PERIOD when the line of an enabled zone reaches outside the 524,288 samples of
  delay memory, which R59 says do not exist. No run reaches it (R2, R60). Safe: the model stops. -/
  | noSuchSample
  deriving DecidableEq, Repr

/-- Why a step is refused. -/
inductive Refusal where
  /-- The row has no meaning yet: raised only by an arm of `exec`. Safe: the model stops. -/
  | notModelled (mnemonic : String)
  deriving DecidableEq, Repr

/-! ### The zone record (R2 to R6) -/

/-- An allocation that is present (R2). -/
structure Allocation where
  base : Nat
  count : Nat
  deriving DecidableEq, Repr

/-- A coupling that is present (R2). -/
structure Coupling where
  leader : Zone
  offset : Int
  deriving DecidableEq, Repr

/-- One section of an EQ bank (R4). -/
structure Section where
  bypass : Bool
  b0 : Coef
  b1 : Coef
  b2 : Coef
  a1 : Coef
  a2 : Coef
  deriving DecidableEq, Repr

/-- An EQ bank: exactly eight sections (R4). -/
abbrev Bank := Vector Section 8

/-- A zone record: the fields of R2, R3 and R4, in that order. -/
structure ZoneRecord where
  enabled : Bool
  allocation : Option Allocation
  pathLength : Int
  precedence : Int
  trim : Int
  weights : Vector Nat 8
  reference : Option Zone
  coupling : Option Coupling
  slew : Nat
  fadeLength : Nat
  wakeTime : Nat
  parkHang : Nat
  eqSelect : Fin 4
  gain : Int
  mute : Bool
  evacGain : Int
  banks : Vector Bank 4
  deriving DecidableEq, Repr

/-- The default section: bypassed, b0 1.0, the other coefficients 0 (R4). -/
def Section.default : Section :=
  { bypass := true, b0 := 1048576#24, b1 := 0#24, b2 := 0#24, a1 := 0#24, a2 := 0#24 }

/-- The default record: every field at its default (R2, R3, R4). -/
def ZoneRecord.default : ZoneRecord :=
  { enabled := false, allocation := none, pathLength := 0, precedence := 0, trim := 0,
    weights := Vector.replicate 8 0, reference := none, coupling := none,
    slew := 4, fadeLength := 50, wakeTime := 200, parkHang := 10000,
    eqSelect := 0, gain := 0, mute := false, evacGain := 0,
    banks := Vector.replicate 4 (Vector.replicate 8 Section.default) }

/-- The field groups of a zone record, in the order of the table of R6. -/
inductive FieldGroup where
  | enable | allocation | geometry | coupling | timing
  | bank (b : Fin 4)
  | select | level | evac
  deriving DecidableEq, Repr

/-- How a zone's entry was produced by start-up load (R15). -/
inductive LoadOrigin where
  | notLoaded | sector | defaultBlank | defaultCorrupt
  deriving DecidableEq, Repr

/-- The load status of a table entry (R15). -/
structure LoadStatus where
  origin : LoadOrigin
  allocDropped : Bool
  couplingDropped : Bool
  deriving DecidableEq, Repr

/-- One entry of the alignment table (R1). The dirty flag is yes exactly while `groups` is not empty
(R1), so it is a view, `TableEntry.dirty`. `groups` holds no group twice and keeps the order of R6. -/
structure TableEntry where
  active : ZoneRecord
  shadow : ZoneRecord
  groups : List FieldGroup
  status : LoadStatus
  deriving DecidableEq, Repr

/-! ### Delay targets (R37) -/

/-- How T_z was last formed (R37). -/
inductive EstimateSource where
  | sensors | reference | held | leader
  deriving DecidableEq, Repr

/-- Whether the last replacement of D_tgt limited R, and at which end (R37). -/
inductive Clamped where
  | no | low | high
  deriving DecidableEq, Repr

/-- The delay target unit's state of one zone (R37). -/
structure TargetState where
  tz : Option Int
  source : EstimateSource
  held : Bool
  c : Int
  dPath : Int
  raw : Int
  cap : Nat
  tgt : Nat
  clamped : Clamped
  leaderAbsent : Bool
  deriving DecidableEq, Repr

/-! ### Delay lines (R59 to R75) -/

/-- One listed sample of delay memory: its address and its value (R59). -/
abbrev MemCell := Nat × Sample

/-- The delay line unit's state of one zone: D_cur and the write position (R63, R67). -/
structure LineState where
  dCur : Nat
  writePos : Nat
  deriving DecidableEq, Repr

/-! ### EQ unit and gain stage (R94, R104, R107) -/

/-- The state of a section: two previous inputs and two previous outputs (R94). -/
structure SectionState where
  x1 : Sample
  x2 : Sample
  y1 : Sample
  y2 : Sample
  deriving DecidableEq, Repr

/-- A section at rest. -/
def SectionState.zero : SectionState := { x1 := 0#24, x2 := 0#24, y1 := 0#24, y2 := 0#24 }

/-- A cascade: the bank it was set up from, its copy of the eight sections, and their states (R94). -/
structure Cascade where
  bank : Fin 4
  sections : Bank
  states : Vector SectionState 8
  deriving DecidableEq, Repr

/-- The EQ state of a zone, with what EQ_XFADE holds (R94). -/
inductive EqMode where
  | steady
  | wait
  | xfade (incoming : Cascade) (p : Nat) (slot : Fin 4) (held : Bool)
  deriving DecidableEq, Repr

/-- The EQ unit's state of one zone (R94). -/
structure EqState where
  mode : EqMode
  running : Cascade
  deriving DecidableEq, Repr

/-- The gain stage's state of one zone: the applied factor, the target factor, the two ends of the ramp
of the present frame (f_old and f_new of R105), and the clip counter (R104, R105, R107). -/
structure GainState where
  applied : Nat
  target : Nat
  rampFrom : Nat
  rampTo : Nat
  clip : Nat
  deriving DecidableEq, Repr

/-! ### Routes (R111, R112) -/

/-- A source S0 to S8. -/
abbrev Source := Fin 9

/-- A route entry (R111). -/
structure RouteEntry where
  port : Port
  source : Source
  level : Nat
  deriving DecidableEq, Repr

/-- The fade record of a zone (R112); a source of `none` is silence. -/
inductive Fade where
  | atRest (source : Option Source)
  | fading (outgoing incoming : Option Source) (p n : Nat) (up : Bool)
  deriving DecidableEq, Repr

/-- The gain code named to the gain stage (R112). -/
inductive GainName where
  | programme | evac
  deriving DecidableEq, Repr

/-- The route unit's state of one zone. The set is kept in the order of the selection of R120, so the
winner is its head: a view, `RouteState.winner`. -/
structure RouteState where
  entries : List RouteEntry
  fade : Fade
  named : GainName
  deriving DecidableEq, Repr

/-! ### Zone power (R130) -/

/-- The power state of a zone, with its counters (R130). -/
inductive PowerState where
  | disabled | parked | wakeWait
  | waking (left : Nat)
  | live
  | draining (time left : Nat)
  deriving DecidableEq, Repr

/-- The zone power unit's state of one zone (R130). The amplifier enable is a view of the state. `fresh`
is the model's own: the state was entered at the frame mark whose FRAME_MARK is still to come, which
is therefore not counted for it (log entry 5). -/
structure PowerUnit where
  state : PowerState
  framesInState : Nat
  fresh : Bool
  deriving DecidableEq, Repr

/-- All the per-zone state. -/
structure ZoneState where
  entry : TableEntry
  target : TargetState
  line : LineState
  eq : EqState
  gain : GainState
  route : RouteState
  power : PowerUnit
  deriving DecidableEq, Repr

/-! ### The change queue (R18, R19) -/

/-- The zone a change writes (R18). -/
inductive ZoneTarget where
  | one (z : Zone)
  | all
  deriving DecidableEq, Repr

/-- The values of the GEOMETRY group (R6, R19). -/
structure Geometry where
  pathLength : Int
  precedence : Int
  trim : Int
  weights : Vector Nat 8
  reference : Option Zone
  deriving DecidableEq, Repr

/-- The values of the TIMING group (R6, R19). -/
structure Timing where
  slew : Nat
  fadeLength : Nat
  wakeTime : Nat
  parkHang : Nat
  deriving DecidableEq, Repr

/-- One item of a scene (R8). -/
structure SceneItem where
  gain : Int
  mute : Bool
  select : Fin 4
  deriving DecidableEq, Repr

/-- A scene: one item per zone, in zone order (R8, R161). -/
abbrev Scene := Vector SceneItem 32

/-- The change kinds, in the order of the table of R19. -/
inductive ChangeKind where
  | gain | eqSelect | eqBank | geometry | coupling | timing | evacGain | scene
  deriving DecidableEq, Repr

/-- A change: its kind, its bank where it has one, and its payload (R18, R19). -/
inductive Change where
  | gain (code : Int) (mute : Bool)
  | eqSelect (select : Fin 4)
  | eqBank (bank : Fin 4) (sections : Bank)
  | geometry (values : Geometry)
  | coupling (value : Option Coupling)
  | timing (values : Timing)
  | evacGain (code : Int)
  | scene (items : Scene)
  deriving DecidableEq, Repr

/-- One entry of the change queue (R18). -/
structure QueueEntry where
  port : Port
  zone : ZoneTarget
  change : Change
  bypass : Nat
  deriving DecidableEq, Repr

/-- The entry in hand, with the frame marks still to come before it completes (R18, R30). `fresh` is the
model's own: the entry was taken at the frame mark whose FRAME_MARK is still to come (log entry 5). -/
structure InHand where
  entry : QueueEntry
  marks : Nat
  fresh : Bool
  deriving DecidableEq, Repr

/-- The change queue, oldest first, and the apply unit: FREE while `hand` is none (R18, section 2.4). -/
structure ChangeQueue where
  entries : List QueueEntry
  hand : Option InHand
  deriving DecidableEq, Repr

/-! ### Temperature unit (R79, R81) -/

/-- The state of a sensor slot; MANUAL holds the manual value (R79). -/
inductive SensorStatus where
  | off | seeking | valid | stale | fault
  | manual (value : Int)
  deriving DecidableEq, Repr

/-- The kinds of failure, in the order of R79. -/
inductive FailureKind where
  | noAnswer | range | spike | busStuck
  deriving DecidableEq, Repr

/-- The last failure of a slot: its kind and, for RANGE and SPIKE, the value read (R79). -/
structure Failure where
  kind : FailureKind
  value : Option Int
  deriving DecidableEq, Repr

/-- A sensor record less the enabled and address fields, which live in the system settings (R79, R191).
`fresh` is the model's own: the last reading was accepted at the frame mark whose FRAME_MARK is still
to come (log entry 5). -/
structure SensorRecord where
  status : SensorStatus
  lastAccepted : Option Int
  failures : Nat
  framesSince : Nat
  lastFailure : Option Failure
  fresh : Bool
  deriving DecidableEq, Repr

/-- A poll round in progress: the slot in flight, the address its transaction reads, which is the one its
record held when its turn came, the slots still to read, the spike limit the round fixed, and whether the
transaction in flight is void (R81, R82). -/
structure Round where
  slot : Fin 8
  address : Nat
  rest : List (Fin 8)
  spikeLimit : Nat
  void : Bool
  deriving DecidableEq, Repr

/-- The temperature unit. The poll timer is none while it is stopped (R92); the round state is IDLE while
`round` is none (R81). `pollFresh` is the model's own (log entry 5). -/
structure TempUnit where
  sensors : Vector SensorRecord 8
  pollTimer : Option Nat
  pollFresh : Bool
  round : Option Round
  deriving DecidableEq, Repr

/-! ### System settings (R191) -/

/-- The enabled and address fields of a sensor slot (R79, R191). -/
structure SensorFields where
  enabled : Bool
  address : Nat
  deriving DecidableEq, Repr

/-- The system settings record (R191). -/
structure Settings where
  tRef : Int
  deadband : Nat
  bypassMax : Nat
  wakeMax : Nat
  wakeWindow : Nat
  pollInterval : Nat
  staleLimit : Nat
  spikeLimit : Nat
  sensors : Vector SensorFields 8
  deriving DecidableEq, Repr

/-- The defaults of R191, with the sensor fields of R92. -/
def Settings.default : Settings :=
  { tRef := 320, deadband := 16, bypassMax := 6, wakeMax := 4, wakeWindow := 20,
    pollInterval := 5, staleLimit := 30, spikeLimit := 32,
    sensors := Vector.ofFn fun i => { enabled := false, address := 0x48 + i.val } }

/-! ### The alignment probe (R145, R147, R153) -/

/-- One copy of the probe settings (R145). -/
structure ProbeSettings where
  zone : Zone
  period : Nat
  width : Nat
  gain : Int
  threshold : Nat
  window : Nat
  source : Fin 8
  repeating : Bool
  deriving DecidableEq, Repr

/-- The defaults of R145. -/
def ProbeSettings.default : ProbeSettings :=
  { zone := 0, period := 1000, width := 4, gain := -12, threshold := 100000, window := 500,
    source := 0, repeating := false }

/-- A crossing that has been found: its raw arrival and whether it is EARLY (R147, R152). -/
structure Crossing where
  raw : Nat
  early : Bool
  deriving DecidableEq, Repr

/-- The detection record of an open capture window: the sample index reached, the previous magnitude, the
crossing when found, the peak and the OVERLOAD and SLEWING flags (R147, R152). -/
structure Window where
  k : Nat
  prev : Nat
  crossing : Option Crossing
  peak : Nat
  overload : Bool
  slewing : Bool
  deriving DecidableEq, Repr

/-- The run record of RUNNING and STOPPING. `toOpen n` is the model's own: no period is open, and the
next opens at the frame mark n frame marks away, 0 being the present one (R150, R154). `opened` holds
the frame marks elapsed in the period, 0 to 1,999, the delay at emission, and the detection record while
the window is open (R147, R151). `ending` is the model's own: the frame mark that ends the period has had
its FRAME_MARK, and its end is still to be taken (log entry 5). -/
inductive Run where
  | toOpen (marks : Nat)
  | opened (elapsed : Nat) (emission : Nat) (window : Option Window) (ending : Bool)
  deriving DecidableEq, Repr

/-- The probe's state with its run record (R147). -/
inductive ProbeState where
  | idle
  | armed (edge : Edge)
  | waitingZone
  | running (run : Run)
  | stopping (run : Run)
  deriving DecidableEq, Repr

/-- The status of a result (R153). -/
inductive ResultStatus where
  | found | notFound | aborted
  deriving DecidableEq, Repr

/-- One result (R153). The acoustic arrival is a view: raw arrival less delay at emission. -/
structure ProbeResult where
  zone : Zone
  status : ResultStatus
  raw : Option Nat
  emission : Nat
  peak : Nat
  early : Bool
  overload : Bool
  slewing : Bool
  deriving DecidableEq, Repr

/-- The alignment probe. -/
structure ProbeUnit where
  pending : ProbeSettings
  current : ProbeSettings
  state : ProbeState
  results : List ProbeResult
  deriving DecidableEq, Repr

/-! ### The preset store (R161 to R172) -/

/-- A sector number, 0 to 40 (R161). -/
abbrev SectorNo := Fin 41

/-- What the header says of a sector (R161). -/
inductive SectorState where
  | blank | valid | corrupt
  deriving DecidableEq, Repr

/-- The contents of a sector: erased, a record of the sector's kind, or bits that are neither, such as
what a failed verify leaves (R161, R175). -/
inductive Contents where
  | erased
  | zone (record : ZoneRecord)
  | scene (items : Scene)
  | system (settings : Settings)
  | damaged
  deriving DecidableEq, Repr

/-- A sector with its header (R161). -/
structure Sector where
  state : SectorState
  check : BitVec 32
  lock : Bool
  eraseCount : Nat
  mark : Bool
  contents : Contents
  deriving DecidableEq, Repr

/-- The write commands of the store (R162). -/
inductive WriteCommand where
  | eraseSector | storeZone | storeScene | storeSystem | lockZone
  deriving DecidableEq, Repr

/-- The phases of a write operation (R162). -/
inductive Phase where
  | erase | program | lock
  deriving DecidableEq, Repr

/-- The states of the store (R163). -/
inductive StoreState where
  | starting | ready | erasing | programming | locking | suspending | reading
  deriving DecidableEq, Repr

/-- The operation record (R163), with the time still to run in its phase, in ms. -/
structure Operation where
  command : WriteCommand
  port : Port
  sector : SectorNo
  captured : Contents
  phase : Phase
  left : Nat
  deriving DecidableEq, Repr

/-- A recall: its port and its scene (R169). -/
structure Recall where
  port : Port
  scene : Fin 8
  deriving DecidableEq, Repr

/-- The kinds of store fault (R167). -/
inductive StoreFaultKind where
  | eraseFault | programFault
  deriving DecidableEq, Repr

/-- A fault held by the fault record (R167). -/
structure StoreFault where
  kind : StoreFaultKind
  command : WriteCommand
  sector : SectorNo
  port : Port
  deriving DecidableEq, Repr

/-- The preset store. The corrupt list and "V scene recall failed" are members of the fault condition
set (R172, R176, R179). -/
structure StoreUnit where
  sectors : Vector Sector 41
  state : StoreState
  op : Option Operation
  recalls : List Recall
  reading : Option Recall
  fault : Option StoreFault
  override : Bool
  corrupt : List Zone
  vRecallFailed : Bool
  deriving DecidableEq, Repr

/-! ### Notifications (R182) -/

/-- What befell the supervision of port V (R182). -/
inductive SupervisionEvent where
  | lost | restored | ended
  deriving DecidableEq, Repr

/-- Why a scene recall failed after its answer (R171). -/
inductive SceneFailure where
  | corrupt | queueFull
  deriving DecidableEq, Repr

/-- Why a run of the probe was cancelled, in the order of R190. -/
inductive CancelReason where
  | zoneDisabled | evac | routeFull | evicted
  deriving DecidableEq, Repr

/-- Why a change was dropped (R33). -/
inductive DropReason where
  | locked | badCoupling
  deriving DecidableEq, Repr

/-- Why a frame was discarded (R187). -/
inductive LinkCause where
  | length | gap | framing | check | overrun
  deriving DecidableEq, Repr

/-- The details of the sixteen event kinds (R182); a detail says its kind, `Detail.kind`. -/
inductive Detail where
  | supervision (event : SupervisionEvent) (timeout : Nat)
  | sceneFailed (port : Port) (scene : Fin 8) (reason : SceneFailure)
  | routeEvicted (zone : Zone) (source : Source) (level : Nat) (bySource : Source) (byLevel : Nat)
  | routesLost (zone : Zone) (lost : List (Source × Nat))
  | storeFault (command : WriteCommand) (sector : SectorNo) (kind : StoreFaultKind)
  | sensorFault (slot : Fin 8) (kind : FailureKind)
  | sensorRecovered (slot : Fin 8) (value : Int)
  | tempHeld (zone : Zone) (tz : Int)
  | targetClamped (zone : Zone) (high : Bool) (raw : Int) (cap : Nat)
  | probeCancelled (zone : Zone) (reason : CancelReason)
  | changeDropped (zone : ZoneTarget) (kind : ChangeKind) (reason : DropReason)
  | clip (zone : Zone) (byGain : Bool)
  | linkError (cause : LinkCause)
  | storeDone (command : WriteCommand) (sector : SectorNo)
  | probeResult (zone : Zone) (status : ResultStatus) (acoustic : Option Int)
  | queueDrained (zone : ZoneTarget) (kind : ChangeKind)
  | startupDone (restart : Bool)
  deriving DecidableEq, Repr

/-- One event kind of one port. The flag is set exactly while the detail is present (R182). -/
structure NoteFlag where
  enable : Bool
  level : Nat
  detail : Option Detail
  count : Nat
  deriving DecidableEq, Repr

/-- The default levels of the sixteen kinds, kinds 1 to 16 at places 0 to 15 (R182). -/
def defaultLevels : Vector Nat 16 := #v[7, 7, 5, 5, 5, 4, 4, 4, 3, 3, 3, 2, 2, 1, 1, 1]

/-- The sixteen kinds of one port after a reset (R185). -/
def notesDefault : Vector NoteFlag 16 :=
  Vector.ofFn fun i => { enable := true, level := defaultLevels[i], detail := none, count := 0 }

/-! ### Control links (R186 to R190) -/

/-- A complete frame: its CMD byte and its PAYLOAD (R186). -/
structure Frame where
  cmd : Byte
  payload : List Byte
  deriving DecidableEq, Repr

/-- The framing state of a receiver with the bytes it has gathered (R186). `whole` is CHECK with its
second byte in, which FRAME_RECEIVED judges (log entry 4). -/
inductive Receiver where
  | hunt
  | length (got : List Byte)
  | body (len : Nat) (got : List Byte)
  | check (body : List Byte) (got : List Byte)
  | whole (body : List Byte) (check : List Byte)
  deriving DecidableEq, Repr

/-- The results of R189, in the order of its table. -/
inductive Result where
  | ok | okClamped | queued | merged
  | notPermitted | unknownCommand | badValue | starting
  | queueFull | locked | zoneDisabled | routeFull | evacActive | noPages | allocOverlap
  | storeBusy | faultPending | notValid | sectorBusy | sceneEmpty | sceneCorrupt
  | probeBusy | notEnough | negativePath | noReference
  deriving DecidableEq, Repr

/-- A response being sent: its CMD byte, result and payload (R188, R190), and whether its end is a
RESTART's reset event (R193). -/
structure Response where
  cmd : Byte
  result : Result
  payload : List Byte
  restarts : Bool
  deriving DecidableEq, Repr

/-- One control link: its receiver, its buffer, oldest first, and its transmitter, idle while `tx` is
none (R186, R188). -/
structure Link where
  rx : Receiver
  buffer : List Frame
  tx : Option Response
  deriving DecidableEq, Repr

/-- What the part keeps for one port: its link and its sixteen event kinds. -/
structure PortState where
  link : Link
  notes : Vector NoteFlag 16
  deriving DecidableEq, Repr

/-! ### Supervision and resets (R180, R192) -/

/-- The state of the supervision timer (R180). -/
inductive Watch where
  | off
  | watching (left : Nat)
  | lost
  deriving DecidableEq, Repr

/-- The supervision timer (R180). `fresh` is the model's own (log entry 5). -/
structure Supervision where
  watch : Watch
  timeout : Nat
  fresh : Bool
  deriving DecidableEq, Repr

/-- The kind of the last reset (R192). -/
inductive ResetKind where
  | cold
  | restart (by_ : Port)
  deriving DecidableEq, Repr

/-! ### The state -/

/-- The state of the part. -/
structure State where
  /-- The commands that are waiting, first in, first out. -/
  pending : List Instr
  /-- The per-zone state of Z0 to Z31. -/
  zones : Vector ZoneState 32
  queue : ChangeQueue
  /-- Delay memory: the samples that are not 0, by rising address (R59, R75). -/
  mem : List MemCell
  /-- The EQ wait list, oldest first (R94). -/
  eqWait : List Zone
  /-- The limiter history, the latest frame mark first (R136). -/
  history : Vector Nat 100
  temp : TempUnit
  settings : Settings
  probe : ProbeUnit
  store : StoreUnit
  /-- The ports P, V, C at places 0, 1, 2. -/
  ports : Vector PortState 3
  supervision : Supervision
  lastReset : ResetKind
  /-- The model's own: sample periods taken since the last FRAME_MARK, at most 48 (log entry 5). -/
  sampleIndex : Nat
  /-- The model's own: an event of the coming frame mark has been taken before its FRAME_MARK
  (log entry 5). -/
  atMark : Bool
  /-- The model's own: the samples of the 32 output slots in the last sample period (R106). -/
  tdmOut : Vector Sample 32
  /-- The model's own: the enables of the last transmission of the amplifier link (R141). -/
  ampSent : Vector Bool 32
  deriving DecidableEq, Repr

/-! ### Right after a cold reset -/

/-- A cascade set up from the bank a record selects, with zero states (R97, R102, R110). -/
def Cascade.setUp (r : ZoneRecord) : Cascade :=
  { bank := r.eqSelect, sections := r.banks[r.eqSelect],
    states := Vector.replicate 8 SectionState.zero }

/-- The delay target unit's fields before the first computation (R37). -/
def TargetState.initial : TargetState :=
  { tz := none, source := .reference, held := false, c := Config.soundBase, dPath := 0, raw := 0,
    cap := 0, tgt := 0, clamped := .no, leaderAbsent := false }

/-- The per-zone state after a cold reset (R16, R57, R75, R110, R129, R143). -/
def ZoneState.initial : ZoneState :=
  { entry :=
      { active := ZoneRecord.default, shadow := ZoneRecord.default, groups := [],
        status := { origin := .notLoaded, allocDropped := false, couplingDropped := false } },
    target := TargetState.initial,
    line := { dCur := 0, writePos := 0 },
    eq := { mode := .steady, running := Cascade.setUp ZoneRecord.default },
    gain := { applied := 0, target := 0, rampFrom := 0, rampTo := 0, clip := 0 },
    route := { entries := [], fade := .atRest none, named := .programme },
    power := { state := .disabled, framesInState := 0, fresh := false } }

/-- A sensor record after a cold reset, by its enabled field (R92). -/
def SensorRecord.initial (enabled : Bool) : SensorRecord :=
  { status := if enabled then .seeking else .off, lastAccepted := none, failures := 0,
    framesSince := Config.frameCountMax, lastFailure := none, fresh := false }

/-- A sector of a store that has never been written (log entry 1). -/
def Sector.factory : Sector :=
  { state := .blank, check := 0#32, lock := false, eraseCount := 0, mark := false,
    contents := .erased }

/-- A port after a reset (R185, R194). -/
def PortState.initial : PortState :=
  { link := { rx := .hunt, buffer := [], tx := none }, notes := notesDefault }

/-- The store after a reset, before start-up load, with the sectors given (R174, R177, R178). -/
def StoreUnit.afterReset (sectors : Vector Sector 41) : StoreUnit :=
  { sectors := sectors, state := .starting, op := none, recalls := [], reading := none,
    fault := none, override := false, corrupt := [], vRecallFailed := false }

/-- The machine right after a cold reset of a part whose store has never been written (log entry 1):
every block at its cold-reset values, start-up load in progress. -/
def State.reset : State :=
  { pending := [],
    zones := Vector.replicate 32 ZoneState.initial,
    queue := { entries := [], hand := none },
    mem := [],
    eqWait := [],
    history := Vector.replicate 100 0,
    temp :=
      { sensors := Vector.replicate 8 (SensorRecord.initial false), pollTimer := none,
        pollFresh := false, round := none },
    settings := Settings.default,
    probe :=
      { pending := ProbeSettings.default, current := ProbeSettings.default, state := .idle,
        results := [] },
    store := StoreUnit.afterReset (Vector.replicate 41 Sector.factory),
    ports := Vector.replicate 3 PortState.initial,
    supervision := { watch := .off, timeout := 2000, fresh := false },
    lastReset := .cold,
    sampleIndex := 0,
    atMark := false,
    tdmOut := Vector.replicate 32 0#24,
    ampSent := Vector.replicate 32 false }

end Sys2Proof.Machine
end

