-- ==== Sys2Proof/Machine/Operands.lean ====
section
/-! DEFINITION. Operand forms and arithmetic the chapters share: rounding and saturation (00_scope 4.2),
the limiting of numeric fields and the range of structural values (R20, R21, R189), gain factors
(R103, R151), and the check values of frames and sectors (R161, R186). -/

namespace Sys2Proof.Machine

/-! ### Rounding and saturation (00_scope 4.2) -/

/-- n / d rounded to nearest, ties upward (toward +∞). -/
def roundUp (n : Int) (d : Nat) : Int := (2 * n + d) / (2 * d)

/-- n / d rounded to nearest, ties away from zero. -/
def roundAway (n : Int) (d : Nat) : Int :=
  if 0 ≤ n then roundUp n d else -roundUp (-n) d

/-- ⌈n / d⌉. -/
def ceilDiv (n d : Nat) : Nat := (n + (d - 1)) / d

/-- Limited to lo to hi. -/
def limit (lo hi x : Int) : Int := max lo (min hi x)

/-- Limited to lo to hi, as a natural number. -/
def limitNat (lo hi : Nat) (x : Int) : Nat := (limit lo hi x).toNat

/-- The value lies in lo to hi. -/
def inRange (lo hi x : Int) : Bool := decide (lo ≤ x ∧ x ≤ hi)

/-- x saturates when it lies outside the 24-bit range. -/
def saturates (x : Int) : Bool := !inRange Config.sampleMin Config.sampleMax x

/-- Saturated to 24 bits. -/
def saturate (x : Int) : Sample := BitVec.ofInt 24 (limit Config.sampleMin Config.sampleMax x)

/-- The straight line from a to b at p of n: a + round((b − a) × p / n), ties away from zero (R100,
R105, R122). -/
def mixInt (a b : Int) (p n : Nat) : Int := a + roundAway ((b - a) * p) n

/-! ### Gain factors (R103, R151) -/

/-- (2m − 1)/2 is at most k × 10^(g/40), that is, m is at most that number rounded to nearest. Both
sides are raised to the power 40, so the comparison is exact. -/
def codeAtMost (k : Nat) (g : Int) (m : Nat) : Bool :=
  decide ((2 * m - 1) ^ 40 * 10 ^ (-g).toNat ≤ (2 * k) ^ 40 * 10 ^ g.toNat)

/-- The greatest m of at most `bits` bits above `acc` with `codeAtMost`. -/
def codeSearch (k : Nat) (g : Int) : Nat → Nat → Nat
  | 0, acc => acc
  | bits + 1, acc =>
    codeSearch k g bits (if codeAtMost k g (acc + 2 ^ bits) then acc + 2 ^ bits else acc)

/-- round(k × 10^(g/40)) for a gain code g (R103, R151). No code makes a tie. -/
def codeScale (k : Nat) (g : Int) : Nat := codeSearch k g 25 0

/-- The gain factor of a gain code (R103). -/
def gainFactor (g : Int) : Nat := codeScale Config.unityFactor g

/-- The pulse level of a pulse gain (R151). -/
def pulseLevel (g : Int) : Nat := codeScale Config.pulseScale g

/-! ### Check values (R161, R186) -/

/-- One bit of a CRC-16 with polynomial 0x1021, most significant bit first. -/
def crc16Bits : Nat → BitVec 16 → BitVec 16
  | 0, c => c
  | n + 1, c => crc16Bits n (if c.msb then (c <<< 1) ^^^ 0x1021#16 else c <<< 1)

/-- The CRC-16 of the bytes of a frame from LENGTH to the end of PAYLOAD (R186). -/
def crc16 (bytes : List Byte) : BitVec 16 :=
  bytes.foldl (fun c b => crc16Bits 8 (c ^^^ (b ++ 0#8 : BitVec 16))) 0xFFFF#16

/-- Bits of a CRC-32 with polynomial 0x04C11DB7 taken least significant first, in the reflected form. -/
def crc32Bits : Nat → BitVec 32 → BitVec 32
  | 0, c => c
  | n + 1, c => crc32Bits n (if c.getLsbD 0 then (c >>> 1) ^^^ 0xEDB88320#32 else c >>> 1)

/-- The check value of a sector's contents (R161). -/
def crc32 (bytes : List Byte) : BitVec 32 :=
  ~~~ (bytes.foldl (fun c b => crc32Bits 8 (c ^^^ BitVec.setWidth 32 b)) 0xFFFFFFFF#32)

/-! ### Structural values (R20, R189) -/

/-- The zones Z0 to Z31 in zone order. -/
def allZones : List Zone := List.finRange 32

/-- The slots 0 to 7 in slot order. -/
def allSlots : List (Fin 8) := List.finRange 8

/-- The number as one of n, or none where it lies outside. -/
def toFin (n : Nat) [NeZero n] (x : Nat) : Option (Fin n) :=
  if x < n then some (Fin.ofNat n x) else none

/-- A zone number Z0 to Z31. -/
def zoneOf (x : Nat) : Option Zone := toFin 32 x

/-- Yes, on, or the first of two values; none where the byte is neither. -/
def choiceBool : Choice → Option Bool
  | .first => some true
  | .second => some false
  | .neither => none

/-- A zone set: a count of 0 to 32, every member Z0 to Z31; a zone named twice is handled once, and the
zones are handled in zone order (R190). -/
def zoneSet (l : List Nat) : Option (List Zone) :=
  if l.length ≤ 32 ∧ l.all (fun n => decide (n < 32)) then
    some (allZones.filter fun z => decide (z.val ∈ l))
  else none

/-- The zone or ALL of a change command that allows ALL (R19). -/
def zoneTarget : ZoneSel → Option ZoneTarget
  | .zone n => (zoneOf n).map .one
  | .all => some .all

/-- The zone of a change command that does not allow ALL (R20). -/
def zoneOnly : ZoneSel → Option Zone
  | .zone n => zoneOf n
  | .all => none

/-- An optional part whose parts are checked: absent passes, present must pass. -/
def checkOption {α β : Type} (f : α → Option β) : Option α → Option (Option β)
  | none => some none
  | some a => (f a).map some

/-- Every member checked, the first failure failing the whole. -/
def checkAll {α β : Type} (f : α → Option β) : List α → Option (List β)
  | [] => some []
  | a :: l => do
    let b ← f a
    let r ← checkAll f l
    some (b :: r)

/-! ### Limiting (R21, R189) -/

/-- A numeric field: its position among the command's parameters, its range, and the value given. -/
structure Numeric where
  position : Nat
  lo : Int
  hi : Int
  value : Int
  deriving DecidableEq, Repr

/-- The positions of the fields that lie outside their ranges (R25, R190). -/
def limitedFields (l : List Numeric) : List Nat :=
  (l.filter fun f => !inRange f.lo f.hi f.value).map (·.position)

end Sys2Proof.Machine
end

