-- ==== Sys2Proof/Machine/Ops.lean ====
section
/-! DEFINITION. The named operations over State that every block uses: reading and writing one zone,
one port, one sector; delay memory; answering a command on its link; and the change notices' groups. -/

namespace Sys2Proof.Machine

/-- What a meaning answers. -/
abbrev Answer := Host.Outcome State Fault Refusal

/-- One thing after another, where the first does not stop. -/
def andThen (o : Answer) (f : State → Answer) : Answer :=
  match o with
  | .next s => f s
  | .fault e => .fault e
  | .refused r => .refused r

/-! ### One zone -/

/-- The state of one zone. -/
def State.zone (s : State) (z : Zone) : ZoneState := s.zones[z]

/-- The state of one zone, changed. -/
def State.updZone (s : State) (z : Zone) (f : ZoneState → ZoneState) : State :=
  { s with zones := s.zones.set z (f s.zones[z]) }

/-- The active record of a zone (R1). -/
def State.active (s : State) (z : Zone) : ZoneRecord := (s.zone z).entry.active

/-- The shadow record of a zone (R1). -/
def State.shadow (s : State) (z : Zone) : ZoneRecord := (s.zone z).entry.shadow

/-- The power state of a zone (R130). -/
def State.powerOf (s : State) (z : Zone) : PowerState := (s.zone z).power.state

def State.updEntry (s : State) (z : Zone) (f : TableEntry → TableEntry) : State :=
  s.updZone z fun x => { x with entry := f x.entry }

def State.updTarget (s : State) (z : Zone) (f : TargetState → TargetState) : State :=
  s.updZone z fun x => { x with target := f x.target }

def State.updLine (s : State) (z : Zone) (f : LineState → LineState) : State :=
  s.updZone z fun x => { x with line := f x.line }

def State.updEq (s : State) (z : Zone) (f : EqState → EqState) : State :=
  s.updZone z fun x => { x with eq := f x.eq }

def State.updGain (s : State) (z : Zone) (f : GainState → GainState) : State :=
  s.updZone z fun x => { x with gain := f x.gain }

def State.updRoute (s : State) (z : Zone) (f : RouteState → RouteState) : State :=
  s.updZone z fun x => { x with route := f x.route }

def State.updPower (s : State) (z : Zone) (f : PowerUnit → PowerUnit) : State :=
  s.updZone z fun x => { x with power := f x.power }

/-- Every zone changed, in zone order, each from the state the ones before it left. -/
def State.eachZone (s : State) (f : Zone → State → State) : State :=
  allZones.foldl (fun s z => f z s) s

/-- Every zone of a list changed, in the order of the list. -/
def State.eachOf (s : State) (l : List Zone) (f : Zone → State → State) : State :=
  l.foldl (fun s z => f z s) s

/-- The 48 sample periods of the frame have been taken: the coming frame mark is next, and its events may
be taken before its FRAME_MARK (log entry 5). -/
def State.frameOver (s : State) : Bool := decide (s.sampleIndex = Config.samplesPerFrame)

/-! ### Power states (R130) -/

/-- The amplifier enable: on in WAKING, LIVE and DRAINING, off in the other states (R130, R141). -/
def PowerState.enable : PowerState → Bool
  | .waking _ | .live | .draining _ _ => true
  | .disabled | .parked | .wakeWait => false

/-- LIVE or DRAINING: the gain stage follows its target and a bank change takes a crossfade slot. -/
def PowerState.heard : PowerState → Bool
  | .live | .draining _ _ => true
  | .disabled | .parked | .wakeWait | .waking _ => false

/-- Any state but DISABLED. -/
def PowerState.inService : PowerState → Bool
  | .disabled => false
  | .parked | .wakeWait | .waking _ | .live | .draining _ _ => true

/-! ### Allocations (R46, R59, R60) -/

/-- The capacity an allocation gives, in fine units (R46). -/
def capacity : Option Allocation → Nat
  | some a => (a.count * Config.pageSamples - 4) * Config.finePerSample
  | none => 0

/-- The pages of an allocation lie within pages 0 to 511 (R2). -/
def Allocation.inMemory (a : Allocation) : Bool := decide (a.base + a.count ≤ Config.pages)

/-- Two allocations share a page (R61). -/
def Allocation.overlaps (a b : Allocation) : Bool :=
  decide (0 < a.count ∧ 0 < b.count ∧ a.base < b.base + b.count ∧ b.base < a.base + a.count)

/-- Length N of a zone's line in samples; 0 without an allocation (R59). -/
def lineLength : Option Allocation → Nat
  | some a => a.count * Config.pageSamples
  | none => 0

/-- The memory address of a line position (R59). -/
def lineAddress (a : Allocation) (pos : Nat) : Nat := a.base * Config.pageSamples + pos

/-! ### Delay memory (R59) -/

/-- What an address that is not listed reads as: the reset contents of R75. -/
def unlistedSample : Sample := 0#24

/-- The sample at an address. -/
def memRead : List MemCell → Nat → Sample
  | [], _ => unlistedSample
  | (b, v) :: rest, a => if a = b then v else memRead rest a

/-- A sample put in a list of cells by rising address, in place of one already there. -/
def memInsert (a : Nat) (v : Sample) : List MemCell → List MemCell
  | [] => [(a, v)]
  | (b, w) :: rest =>
    if a < b then (a, v) :: (b, w) :: rest
    else if a = b then (a, v) :: rest
    else (b, w) :: memInsert a v rest

/-- A sample written: a sample equal to what an unlisted address reads as is not listed. -/
def memWrite (m : List MemCell) (a : Nat) (v : Sample) : List MemCell :=
  if v = unlistedSample then m.filter (fun c => decide (c.1 ≠ a)) else memInsert a v m

/-- n samples from address a set to 0 (R64). -/
def memClear (m : List MemCell) (a n : Nat) : List MemCell :=
  m.filter fun c => decide (c.1 < a ∨ a + n ≤ c.1)

/-- The canonical form: addresses strictly rising, no listed sample 0. -/
abbrev Memory.wf (m : List MemCell) : Prop :=
  m.Pairwise (fun a b => a.1 < b.1) ∧ ∀ c ∈ m, c.2 ≠ unlistedSample

/-- Every sample of a zone's line set to 0 and its write position set to 0 (R64, R75). -/
def clearLine (z : Zone) (s : State) : State :=
  let s := match (s.active z).allocation with
    | some a => { s with mem := memClear s.mem (lineAddress a 0) (a.count * Config.pageSamples) }
    | none => s
  s.updLine z fun l => { l with writePos := 0 }

/-! ### The table's groups (R1, R6) -/

/-- The ten groups that may join a pending group set, in the order of R6. -/
def queuedGroups : List FieldGroup :=
  [.geometry, .coupling, .timing, .bank 0, .bank 1, .bank 2, .bank 3, .select, .level, .evac]

/-- A group joins a set: no duplicates. READ_RECORD lists the set in the order it is kept in, which is that of R6
(DESIGN CHOICE, log entry 29: R1 and R14 give the set no order). -/
def joinGroup (g : FieldGroup) (l : List FieldGroup) : List FieldGroup :=
  queuedGroups.filter fun x => decide (x = g ∨ x ∈ l)

/-- The dirty flag: yes while the pending group set is not empty (R1). -/
def TableEntry.dirty (e : TableEntry) : Bool := !e.groups.isEmpty

/-! ### Ports, links and answers (R188, R189, R190) -/

/-- The place of a port. -/
def portPlace : Port → Fin 3
  | .P => 0
  | .V => 1
  | .C => 2

/-- What the part keeps for a port. -/
def State.port (s : State) (p : Port) : PortState := s.ports[(portPlace p)]

/-- What the part keeps for a port, changed. -/
def State.updPort (s : State) (p : Port) (f : PortState → PortState) : State :=
  { s with ports := s.ports.set (portPlace p) (f s.ports[(portPlace p)]) }

/-- The link of a port, changed. -/
def State.updLink (s : State) (p : Port) (f : Link → Link) : State :=
  s.updPort p fun x => { x with link := f x.link }

/-- The code of a result (R189). -/
def Result.code : Result → Nat
  | .ok => 0x00 | .okClamped => 0x01 | .queued => 0x02 | .merged => 0x03
  | .notPermitted => 0x10 | .unknownCommand => 0x11 | .badValue => 0x12 | .starting => 0x13
  | .queueFull => 0x20 | .locked => 0x21 | .zoneDisabled => 0x22 | .routeFull => 0x23
  | .evacActive => 0x24 | .noPages => 0x25 | .allocOverlap => 0x26
  | .storeBusy => 0x30 | .faultPending => 0x31 | .notValid => 0x32 | .sectorBusy => 0x33
  | .sceneEmpty => 0x34 | .sceneCorrupt => 0x35
  | .probeBusy => 0x40 | .notEnough => 0x41 | .negativePath => 0x42 | .noReference => 0x43

/-- The response is composed and its sending begins: the transmitter is busy until its last byte (R188). -/
def State.respond (s : State) (p : Port) (r : Response) : State :=
  s.updLink p fun l => { l with tx := some r }

/-- The answer to a command of the table: its code with the top bit set, the result and the payload
(R188, R190). -/
def State.answer (s : State) (p : Port) (code : Nat) (r : Result) (payload : List Byte) : State :=
  s.respond p { cmd := byteOf (code + 0x80), result := r, payload := payload, restarts := false }

/-- The part is in start-up while the store is STARTING (R174). -/
def State.starting (s : State) : Bool := decide (s.store.state = .starting)

/-- The checks every command passes first (R189, steps 2 and 3): during start-up STARTING, then the
privilege of the port. -/
def guarded (s : State) (p : Port) (code : Nat) (permitted : Bool) (body : State → State) : State :=
  if s.starting then s.answer p code .starting []
  else if permitted then body s
  else s.answer p code .notPermitted []

/-- A structural check (R189, step 4): where it fails the answer is BAD_VALUE. -/
def checked {α : Type} (s : State) (p : Port) (code : Nat) (v : Option α) (body : α → State) :
    State :=
  match v with
  | some a => body a
  | none => s.answer p code .badValue []

/-! ### Sectors (R161) -/

/-- The sector of a zone (R161). -/
def zoneSector (z : Zone) : SectorNo := ⟨z.val, by omega⟩

/-- The sector of a scene (R161). -/
def sceneSector (n : Fin 8) : SectorNo := ⟨32 + n.val, by omega⟩

/-- The system sector (R161). -/
def systemSector : SectorNo := 40

/-- The zone whose record a sector keeps, if it is a zone sector. -/
def sectorZone (n : SectorNo) : Option Zone := zoneOf n.val

def State.sector (s : State) (n : SectorNo) : Sector := s.store.sectors[n]

def State.updSector (s : State) (n : SectorNo) (f : Sector → Sector) : State :=
  { s with store := { s.store with sectors := s.store.sectors.set n (f s.store.sectors[n]) } }

/-- The lock of a zone's sector is in force: the flag is set and the override lowered (R22, R31). -/
def State.lockHolds (s : State) (z : Zone) : Bool :=
  (s.sector (zoneSector z)).lock && !s.store.override

end Sys2Proof.Machine
end

