-- ==== Sys2Proof/Machine/Flags.lean ====
section
/-! DEFINITION. The event flags of the ports with their notify lines and lead events (R182, R183), and the
fault condition set with the FAULT line (R179). -/

namespace Sys2Proof.Machine

/-! ### Event kinds (R182) -/

/-- The place of the kind of a detail among the sixteen: kind number less one (R182). -/
def Detail.kind : Detail → Fin 16
  | .supervision .. => 0
  | .sceneFailed .. => 1
  | .routeEvicted .. => 2
  | .routesLost .. => 3
  | .storeFault .. => 4
  | .sensorFault .. => 5
  | .sensorRecovered .. => 5
  | .tempHeld .. => 6
  | .targetClamped .. => 7
  | .probeCancelled .. => 8
  | .changeDropped .. => 9
  | .clip .. => 10
  | .linkError .. => 11
  | .storeDone .. => 12
  | .probeResult .. => 13
  | .queueDrained .. => 14
  | .startupDone .. => 15

/-- An event reaches a flag (R182): with the enable off nothing changes; with it on the flag is set, the
detail replaced and the count raised by one, to no more than 255. -/
def NoteFlag.hit (f : NoteFlag) (d : Detail) : NoteFlag :=
  if f.enable then { f with detail := some d, count := min (f.count + 1) Config.noteCountMax } else f

/-- An event is raised to a port (R182). -/
def State.raise (s : State) (p : Port) (d : Detail) : State :=
  s.updPort p fun x => { x with notes := x.notes.set d.kind (x.notes[d.kind].hit d) }

/-- An event is raised to several ports, each by its own enable (R182). -/
def State.raiseAll (s : State) (ps : List Port) (d : Detail) : State :=
  ps.foldl (fun s p => s.raise p d) s

/-- The sixteen kinds of a port. -/
def State.notes (s : State) (p : Port) : Vector NoteFlag 16 := (s.port p).notes

/-- The kinds in kind order. -/
def allKinds : List (Fin 16) := List.finRange 16

/-- The notify line of a port: asserted while a set flag has a level of 1 or more (R183). -/
def State.notifyLine (s : State) (p : Port) : Bool :=
  allKinds.any fun k => (s.notes p)[k].detail.isSome && decide (1 ≤ (s.notes p)[k].level)

/-- The set flags of a port, in kind order (R183). -/
def State.setFlags (s : State) (p : Port) : List (Fin 16) :=
  allKinds.filter fun k => (s.notes p)[k].detail.isSome

/-- The lead event: the set flag of highest level, among equals of lowest kind number (R183). -/
def State.leadEvent (s : State) (p : Port) : Option (Fin 16) :=
  (s.setFlags p).foldl
    (fun best k => match best with
      | some b => if (s.notes p)[b].level < (s.notes p)[k].level then some k else some b
      | none => some k)
    none

/-! ### The FAULT line (R179) -/

/-- The member "supervision lost" holds while the supervision state is LOST (R179). -/
def State.supervisionLost (s : State) : Bool := decide (s.supervision.watch = .lost)

/-- The FAULT line is asserted while any member of the fault condition set holds (R179). -/
def State.faultLine (s : State) : Bool :=
  s.supervisionLost || !s.store.corrupt.isEmpty || s.store.vRecallFailed

end Sys2Proof.Machine
end

