-- ==== Sys2Proof/Machine/Encode.lean ====
section
/-! DEFINITION. The items of response payloads as bytes (R190), and the contents of a sector as the bytes
its check value is computed over (R161). Every item a rule gives only in some case is sent as an optional
part; a sequence of fixed length carries no count (log entry 8). -/

namespace Sys2Proof.Machine

/-! ### Items -/

/-- yes/no and on/off: 0x00 for yes or on, 0x01 for no or off (R190). -/
def bYes (b : Bool) : List Byte := [if b then 0#8 else 1#8]

/-- A one-byte number or the position of an enumeration (R190). -/
def bNum1 (n : Nat) : List Byte := [byteOf n]

/-- A numeric quantity (R190). -/
def bInt (x : Int) : List Byte := bytes4 x

/-- A count or another numeric quantity that is never negative (R190). -/
def bNat (n : Nat) : List Byte := bytes4 (n : Int)

def bZone (z : Zone) : List Byte := [byteOf z.val]

/-- A zone or ALL (R190). -/
def bTarget : ZoneTarget → List Byte
  | .one z => bZone z
  | .all => [0xFF#8]

/-- A port, by its place in R18. -/
def bPort (p : Port) : List Byte := [byteOf (portPlace p).val]

def bSource (s : Source) : List Byte := [byteOf s.val]

/-- A source or silence (log entry 8). -/
def bHeardSource (s : Option Source) : List Byte := bytesOption bSource s

/-- The names of limited fields (R190). -/
def bLimited (l : List Nat) : List Byte := bytesList bNum1 l

/-! ### Enumerations, by position in the table that defines each -/

def LoadOrigin.place : LoadOrigin → Nat
  | .notLoaded => 0 | .sector => 1 | .defaultBlank => 2 | .defaultCorrupt => 3

def EstimateSource.place : EstimateSource → Nat
  | .sensors => 0 | .reference => 1 | .held => 2 | .leader => 3

def Clamped.place : Clamped → Nat
  | .no => 0 | .low => 1 | .high => 2

def FieldGroup.place : FieldGroup → Nat
  | .enable => 0 | .allocation => 1 | .geometry => 2 | .coupling => 3 | .timing => 4
  | .bank b => 5 + b.val
  | .select => 9 | .level => 10 | .evac => 11

def ChangeKind.place : ChangeKind → Nat
  | .gain => 0 | .eqSelect => 1 | .eqBank => 2 | .geometry => 3 | .coupling => 4 | .timing => 5
  | .evacGain => 6 | .scene => 7

def SensorStatus.place : SensorStatus → Nat
  | .off => 0 | .seeking => 1 | .valid => 2 | .stale => 3 | .fault => 4 | .manual _ => 5

def FailureKind.place : FailureKind → Nat
  | .noAnswer => 0 | .range => 1 | .spike => 2 | .busStuck => 3

def PowerState.place : PowerState → Nat
  | .disabled => 0 | .parked => 1 | .wakeWait => 2 | .waking _ => 3 | .live => 4
  | .draining _ _ => 5

def EqMode.place : EqMode → Nat
  | .steady => 0 | .wait => 1 | .xfade .. => 2

def GainName.place : GainName → Nat
  | .programme => 0 | .evac => 1

def ProbeState.place : ProbeState → Nat
  | .idle => 0 | .armed _ => 1 | .waitingZone => 2 | .running _ => 3 | .stopping _ => 4

def Edge.place : Edge → Nat
  | .rising => 0 | .falling => 1

def ResultStatus.place : ResultStatus → Nat
  | .found => 0 | .notFound => 1 | .aborted => 2

def SectorState.place : SectorState → Nat
  | .blank => 0 | .valid => 1 | .corrupt => 2

def StoreState.place : StoreState → Nat
  | .starting => 0 | .ready => 1 | .erasing => 2 | .programming => 3 | .locking => 4
  | .suspending => 5 | .reading => 6

def Phase.place : Phase → Nat
  | .erase => 0 | .program => 1 | .lock => 2

def StoreFaultKind.place : StoreFaultKind → Nat
  | .eraseFault => 0 | .programFault => 1

/-- The code of a write command (R189, R190). -/
def WriteCommand.code : WriteCommand → Nat
  | .eraseSector => 0x20 | .storeZone => 0x21 | .storeScene => 0x22 | .storeSystem => 0x23
  | .lockZone => 0x24

def SupervisionEvent.place : SupervisionEvent → Nat
  | .lost => 0 | .restored => 1 | .ended => 2

def SceneFailure.place : SceneFailure → Nat
  | .corrupt => 0 | .queueFull => 1

def CancelReason.place : CancelReason → Nat
  | .zoneDisabled => 0 | .evac => 1 | .routeFull => 2 | .evicted => 3

def DropReason.place : DropReason → Nat
  | .locked => 0 | .badCoupling => 1

def LinkCause.place : LinkCause → Nat
  | .length => 0 | .gap => 1 | .framing => 2 | .check => 3 | .overrun => 4

def Watch.place : Watch → Nat
  | .off => 0 | .watching _ => 1 | .lost => 2

/-! ### Records -/

def bSection (x : Section) : List Byte :=
  bYes x.bypass ++ bytes3 x.b0 ++ bytes3 x.b1 ++ bytes3 x.b2 ++ bytes3 x.a1 ++ bytes3 x.a2

/-- An allocation, absent or given with its parts. -/
def bAllocation (a : Option Allocation) : List Byte :=
  bytesOption (fun a => bytes2 a.base ++ bytes2 a.count) a

/-- A zone record: the fields of R2, R3 and R4 in their order (R14). -/
def bRecord (r : ZoneRecord) : List Byte :=
  bYes r.enabled ++ bAllocation r.allocation ++ bInt r.pathLength ++ bInt r.precedence ++
    bInt r.trim ++ r.weights.toList.flatMap bNat ++ bytesOption bZone r.reference ++
    bytesOption (fun k => bZone k.leader ++ bInt k.offset) r.coupling ++
    bNat r.slew ++ bNat r.fadeLength ++ bNat r.wakeTime ++ bNat r.parkHang ++
    bNum1 r.eqSelect.val ++ bInt r.gain ++ bYes r.mute ++ bInt r.evacGain ++
    r.banks.toList.flatMap (fun b => b.toList.flatMap bSection)

/-- The items of a scene in zone order (R161). -/
def bScene (x : Scene) : List Byte :=
  x.toList.flatMap fun i => bInt i.gain ++ bYes i.mute ++ bNum1 i.select.val

/-- The eight fields of the system settings record (R191). -/
def bSettings (x : Settings) : List Byte :=
  bInt x.tRef ++ bNat x.deadband ++ bNat x.bypassMax ++ bNat x.wakeMax ++ bNat x.wakeWindow ++
    bNat x.pollInterval ++ bNat x.staleLimit ++ bNat x.spikeLimit

/-- The enabled and address fields of the sensor slots (R191). -/
def bSensorFields (x : Settings) : List Byte :=
  x.sensors.toList.flatMap fun f => bYes f.enabled ++ bNum1 f.address

/-- The bytes of a sector's contents (log entry 10). -/
def Contents.image : Contents → List Byte
  | .erased => []
  | .zone r => bRecord r
  | .scene x => bScene x
  | .system x => bSettings x ++ bSensorFields x
  | .damaged => []

/-- The copy of the probe settings (R145). -/
def bProbeSettings (x : ProbeSettings) : List Byte :=
  bZone x.zone ++ bNat x.period ++ bNat x.width ++ bInt x.gain ++ bNat x.threshold ++
    bNat x.window ++ bNum1 x.source.val ++ bNum1 (if x.repeating then 1 else 0)

/-- The acoustic arrival of a result: raw arrival less delay at emission (R153). -/
def ProbeResult.acoustic (r : ProbeResult) : Option Int :=
  r.raw.map fun n => (n : Int) - r.emission

/-- One result (R153); its flags are sent as a list of positions in the order of R153. -/
def bProbeResult (r : ProbeResult) : List Byte :=
  bZone r.zone ++ bNum1 r.status.place ++ bytesOption bNat r.raw ++ bNat r.emission ++
    bytesOption bInt r.acoustic ++ bNat r.peak ++
    bytesList bNum1 ((if r.early then [0] else []) ++ (if r.overload then [1] else []) ++
      (if r.slewing then [2] else []))

/-- A last failure (R79). -/
def bFailure (f : Failure) : List Byte := bNum1 f.kind.place ++ bytesOption bInt f.value

/-- The details of the event kinds, in the order of R182. -/
def bDetail : Detail → List Byte
  | .supervision e t => bNum1 e.place ++ bNat t
  | .sceneFailed p n r => bPort p ++ bNum1 n.val ++ bNum1 r.place
  | .routeEvicted z s l bs bl => bZone z ++ bSource s ++ bNum1 l ++ bSource bs ++ bNum1 bl
  | .routesLost z l => bZone z ++ bytesList (fun x => bSource x.1 ++ bNum1 x.2) l
  | .storeFault c n k => bNum1 c.code ++ bNum1 n.val ++ bNum1 k.place
  | .sensorFault n k => bNum1 n.val ++ bNum1 0 ++ bNum1 k.place
  | .sensorRecovered n v => bNum1 n.val ++ bNum1 1 ++ bInt v
  | .tempHeld z t => bZone z ++ bInt t
  | .targetClamped z high r c =>
    bZone z ++ bNum1 (if high then Clamped.high.place else Clamped.low.place) ++ bInt r ++ bNat c
  | .probeCancelled z r => bZone z ++ bNum1 r.place
  | .changeDropped z k r => bTarget z ++ bNum1 k.place ++ bNum1 r.place
  | .clip z g => bZone z ++ bNum1 (if g then 1 else 0)
  | .linkError c => bNum1 c.place
  | .storeDone c n => bNum1 c.code ++ bNum1 n.val
  | .probeResult z st a => bZone z ++ bNum1 st.place ++ bytesOption bInt a
  | .queueDrained z k => bTarget z ++ bNum1 k.place
  | .startupDone r => bNum1 (if r then 1 else 0)

/-- A route entry (R128). -/
def bRouteEntry (e : RouteEntry) : List Byte := bPort e.port ++ bSource e.source ++ bNum1 e.level

/-- The check value of contents (R161). -/
def Contents.checkValue (x : Contents) : BitVec 32 := crc32 x.image

end Sys2Proof.Machine
end

