-- ==== Sys2Proof/Machine/Targets.lean ====
section
/-! DEFINITION. Chapter 3: the delay target unit. Zone temperature, speed of sound, path delay, raw target,
capacity, clamp and deadband (R38 to R49), the causes of a computation (R50 to R52, R55), and
READ_TARGETS (R56). -/

namespace Sys2Proof.Machine

/-- The temperature of a slot where it is usable: the last accepted reading in VALID, the manual value in
MANUAL (R38). -/
def SensorRecord.usable (r : SensorRecord) : Option Int :=
  match r.status with
  | .valid => r.lastAccepted
  | .manual v => some v
  | .off | .seeking | .stale | .fault => none

/-- Whether the zone weights any sensor (R39). -/
def ZoneRecord.weighs (r : ZoneRecord) : Bool := r.weights.toList.any (fun w => decide (0 < w))

/-- Σ w and Σ w·T over the usable slots with weight greater than 0 (R39). -/
def weightedSums (r : ZoneRecord) (sensors : Vector SensorRecord 8) : Nat × Int :=
  allSlots.foldl
    (fun (w, wt) n => match sensors[n].usable with
      | some t => (w + r.weights[n], wt + r.weights[n] * t)
      | none => (w, wt))
    (0, 0)

/-- T_z with its source and HELD flag, as a zone forms them from its own weights (R39, R40). -/
def ownEstimate (r : ZoneRecord) (t : TargetState) (tRef : Int) (sensors : Vector SensorRecord 8) :
    Option Int × EstimateSource × Bool :=
  if r.weighs then
    match weightedSums r sensors with
    | (0, _) => (some (t.tz.getD tRef), .held, true)
    | (w, wt) => (some (roundAway wt w), .sensors, false)
  else (some tRef, .reference, false)

/-- The speed of sound at a temperature (R42). -/
def soundSpeed (tz : Int) : Int := Config.soundBase + roundAway (606 * tz) 16

/-- The path delay of a path length at a speed of sound (R43). -/
def pathDelay (pathLength c : Int) : Int := roundUp (pathLength * Config.finePerSecond) c.toNat

/-- The raw target of a zone from its own geometry (R44). -/
def ownRaw (r : ZoneRecord) (dPath : Int) : Int := dPath + 64 * r.precedence + r.trim

/-- The coupling of a follower whose leader is enabled (R45). -/
def State.ledBy (s : State) (z : Zone) : Option Coupling :=
  match (s.active z).coupling with
  | some k => if (s.active k.leader).enabled then some k else none
  | none => none

/-- The estimate, speed, path delay and raw target of a zone at a computation, with its capacity
(R39 to R46). -/
def formFields (s : State) (z : Zone) : TargetState :=
  let r := s.active z
  let t := (s.zone z).target
  let formed := match s.ledBy z with
    | some k =>
      let l := (s.zone k.leader).target
      let c := (l.tz.map soundSpeed).getD t.c
      { t with
        tz := l.tz, source := .leader, held := l.held, c := c, dPath := pathDelay r.pathLength c,
        raw := l.raw + k.offset, leaderAbsent := false }
    | none =>
      let (tz, source, held) := ownEstimate r t s.settings.tRef s.temp.sensors
      let c := (tz.map soundSpeed).getD t.c
      let dPath := pathDelay r.pathLength c
      { t with
        tz := tz, source := source, held := held, c := c, dPath := dPath, raw := ownRaw r dPath,
        leaderAbsent := r.coupling.isSome }
  { formed with cap := capacity r.allocation }

/-- The classes of computation (section 3.5): only a temperature computation knows the deadband. -/
inductive ComputationClass where
  | temperature | record
  deriving DecidableEq, Repr

/-- R limited to 0 to C_z (R47). -/
def candidate (raw : Int) (cap : Nat) : Nat := limitNat 0 cap raw

/-- Which end of 0 to C_z limits R (R47). -/
def clampEnd (raw : Int) (cap : Nat) : Clamped :=
  if raw < 0 then .low else if (cap : Int) < raw then .high else .no

/-- Whether the candidate replaces D_tgt in an enabled zone (R49). -/
def replaces (cls : ComputationClass) (deadband cand tgt : Nat) : Bool :=
  match cls with
  | .record => true
  | .temperature => decide (deadband ≤ ((cand : Int) - tgt).natAbs)

/-- TEMP_HELD is raised at the computation of a zone's own estimate that sets HELD from no to yes (R40). -/
def raiseHeld (s : State) (z : Zone) (before after : TargetState) : State :=
  if after.source = .held ∧ after.held = true ∧ before.held = false then
    match after.tz with
    | some t => s.raise .C (.tempHeld z t)
    | none => s
  else s

/-- TARGET_CLAMPED is raised at a replacement made with a limit (R47). -/
def raiseClamped (s : State) (z : Zone) (t : TargetState) : State :=
  match t.clamped with
  | .no => s
  | .low => s.raise .C (.targetClamped z false t.raw t.cap)
  | .high => s.raise .C (.targetClamped z true t.raw t.cap)

/-- The candidate taken or turned away: the target fields after the fields of R49 have been formed, and
whether an enabled zone's D_tgt was replaced (R47, R48, R49). -/
def settleTarget (cls : ComputationClass) (enabled : Bool) (deadband : Nat) (t : TargetState) :
    TargetState × Bool :=
  if enabled then
    if replaces cls deadband (candidate t.raw t.cap) t.tgt then
      ({ t with tgt := candidate t.raw t.cap, clamped := clampEnd t.raw t.cap }, true)
    else (t, false)
  else ({ t with tgt := 0, clamped := .no }, false)

/-- One computation of a zone, its followers left aside (R49). -/
def computeOne (cls : ComputationClass) (z : Zone) (s : State) : State :=
  let before := (s.zone z).target
  let formed := formFields s z
  let (t, replaced) := settleTarget cls (s.active z).enabled s.settings.deadband formed
  let s := raiseHeld (s.updTarget z fun _ => t) z before t
  if replaced then raiseClamped s z t else s

/-- The zones whose active record names l as leader, in zone order (R52). -/
def State.followers (s : State) (l : Zone) : List Zone :=
  allZones.filter fun z => (s.active z).coupling.any fun k => decide (k.leader = l)

/-- A computation of a zone, followed by a record computation of its followers when its T_z, HELD flag or
R changed, or when its enabled field did (R52). -/
def compute (cls : ComputationClass) (enabledChanged : Bool) (z : Zone) (s : State) : State :=
  let before := (s.zone z).target
  let s' := computeOne cls z s
  let after := (s'.zone z).target
  if enabledChanged ∨ before.tz ≠ after.tz ∨ before.held ≠ after.held ∨ before.raw ≠ after.raw then
    s'.eachOf (s'.followers z) (computeOne .record)
  else s'

/-- The answer to a sensor notice: a temperature computation of every zone that weights the slot and is not
a follower or has LEADER_ABSENT yes (R38, R50); none during start-up (R57). The zones are computed in zone order
(DESIGN CHOICE, log entry 31: R50 gives them no order). -/
def sensorNotice (slot : Fin 8) (s : State) : State :=
  if s.starting then s
  else s.eachZone fun z s =>
    if 0 < (s.active z).weights[slot] ∧
        ((s.active z).coupling = none ∨ (s.zone z).target.leaderAbsent = true) then
      compute .temperature false z s
    else s

/-- The answer to a change of T_ref: a temperature computation of every zone whose estimate source is
REFERENCE, in zone order (R50, R55). -/
def tRefChanged (s : State) : State :=
  s.eachZone fun z s =>
    if (s.zone z).target.source = .reference then compute .temperature false z s else s

/-- The delay target unit's answer to a change notice (R51). -/
def targetNotice (z : Zone) (groups : List FieldGroup) (s : State) : State :=
  if FieldGroup.enable ∈ groups then compute .record true z s
  else if FieldGroup.geometry ∈ groups ∨ FieldGroup.coupling ∈ groups ∨
      FieldGroup.allocation ∈ groups then
    compute .record false z s
  else s

/-- What READ_TARGETS reports of one zone (R56). T_z, which R37 has absent before the first computation, is sent as an
optional part (DESIGN CHOICE, log entry 8). -/
def bTargets (s : State) (z : Zone) : List Byte :=
  let t := (s.zone z).target
  bytesOption bInt t.tz ++ bNum1 t.source.place ++ bYes t.held ++
    bInt t.c ++ bInt t.dPath ++ bInt t.raw ++
    bNat t.cap ++ bNat t.tgt ++ bNum1 t.clamped.place ++
    bYes t.leaderAbsent ++ bytesOption (fun k => bZone k.leader) (s.active z).coupling ++
    bNat (s.zone z).line.dCur

/-- READ_TARGETS (R56). -/
def takeReadTargets (p : Port) (zones : List Nat) (s : State) : Answer :=
  .next (guarded s p 0x0A true fun s =>
    checked s p 0x0A (zoneSet zones) fun zs =>
      s.answer p 0x0A .ok (bytesList (bTargets s) zs))

end Sys2Proof.Machine
end

