-- ==== Sys2Proof/Machine/EqGain.lean ====
section
/-! DEFINITION. Chapter 6: the EQ unit and the gain stage. Sections and cascades (R95, R96), bank changes,
crossfade slots and the wait list (R97 to R102), gain targets and ramps (R103 to R106), the clip counter
(R107), CROSSFADE_END, CLEAR_CLIP and READ_CHAIN. -/

namespace Sys2Proof.Machine

/-! ### Sections and cascades (R95, R96) -/

/-- acc of a section: exact, each coefficient read as its 24-bit integer value (R95). -/
def sectionAcc (c : Section) (st : SectionState) (x : Sample) : Int :=
  c.b0.toInt * x.toInt + c.b1.toInt * st.x1.toInt + c.b2.toInt * st.x2.toInt
    - c.a1.toInt * st.y1.toInt - c.a2.toInt * st.y2.toInt

/-- One sample period of a section: its state after, its output, and whether the output was saturated. A
bypassed section gives its input and keeps its state (R95, R96). -/
def sectionStep (c : Section) (st : SectionState) (x : Sample) : SectionState × Sample × Bool :=
  if c.bypass then (st, x, false)
  else
    let q := roundAway (sectionAcc c st x) 1048576
    let y := saturate q
    ({ x1 := x, x2 := st.x1, y1 := y, y2 := st.y1 }, y, saturates q)

/-- One sample period of a cascade: sections 0 to 7 in order, and whether any of them saturated (R96). -/
def cascadeStep (c : Cascade) (x : Sample) : Cascade × Sample × Bool :=
  allSlots.foldl
    (fun (acc : Cascade × Sample × Bool) (i : Fin 8) =>
      let (st, y, sat) := sectionStep acc.1.sections[i] acc.1.states[i] acc.2.1
      ({ acc.1 with states := acc.1.states.set i st }, y, acc.2.2 || sat))
    (c, x, false)

/-- One sample period of a zone's EQ: its state after, the EQ output, and whether any section of its
cascades saturated (R96, R100, R107). -/
def eqStep (e : EqState) (x : Sample) : EqState × Sample × Bool :=
  let (run, a, sat) := cascadeStep e.running x
  match e.mode with
  | .steady => ({ e with running := run }, a, sat)
  | .wait => ({ e with running := run }, a, sat)
  | .xfade inc p slot held =>
    let (inc', b, sat') := cascadeStep inc x
    let p' := min (p + 1) Config.crossfadeLength
    ({ mode := .xfade inc' p' slot held, running := run },
      BitVec.ofInt 24 (mixInt a.toInt b.toInt p' Config.crossfadeLength), sat || sat')

/-! ### Slots and the wait list (R98, R99) -/

/-- The crossfade slot a zone holds (R94). -/
def EqState.slot (e : EqState) : Option (Fin 4) :=
  match e.mode with
  | .xfade _ _ k _ => some k
  | .steady | .wait => none

/-- The zone that holds a crossfade slot; none while it is free (R98). -/
def State.slotHolder (s : State) (k : Fin 4) : Option Zone :=
  allZones.find? fun z => decide ((s.zone z).eq.slot = some k)

/-- The lowest-numbered free slot (R99). -/
def State.freeSlot (s : State) : Option (Fin 4) :=
  (List.finRange 4).find? fun k => (s.slotHolder k).isNone

/-- The running cascade runs the bank the record selects, with that bank's sections (R99). -/
def Cascade.runs (c : Cascade) (r : ZoneRecord) : Bool :=
  decide (c.bank = r.eqSelect ∧ c.sections = r.banks[r.eqSelect])

/-- The grants of R99: the zones of the wait list, oldest first, while a slot is free. A zone whose change
has been undone returns to STEADY without a slot. -/
def grantLoop : List Zone → State → State
  | [], s => s
  | z :: rest, s =>
    match s.freeSlot with
    | none => s
    | some k =>
      let s := { s with eqWait := rest }
      if (s.zone z).eq.running.runs (s.active z) then
        grantLoop rest (s.updEq z fun e => { e with mode := .steady })
      else
        grantLoop rest
          (s.updEq z fun e => { e with mode := .xfade (Cascade.setUp (s.active z)) 0 k false })

/-- Grants made whenever a zone joins the wait list or a slot frees (R99). -/
def eqGrant (s : State) : State := grantLoop s.eqWait s

/-- A zone joins the wait list at its young end and enters EQ_WAIT; grants follow (R97, R101). -/
def eqJoin (z : Zone) (s : State) : State :=
  eqGrant { s.updEq z (fun e => { e with mode := .wait }) with eqWait := s.eqWait ++ [z] }

/-- The running cascade set up from the selected bank with zero states, in STEADY (R97, R102). -/
def eqSetUp (z : Zone) (s : State) : State :=
  s.updEq z fun _ => { mode := .steady, running := Cascade.setUp (s.active z) }

/-- The EQ unit's answer to a change notice that asks for a bank change (R97). -/
def bankChange (z : Zone) (s : State) : State :=
  if (s.powerOf z).heard then
    match (s.zone z).eq.mode with
    | .steady => eqJoin z s
    | .wait => s
    | .xfade inc p k _ => s.updEq z fun e => { e with mode := .xfade inc p k true }
  else eqSetUp z s

/-- Whether a change notice asks for a bank change: SELECT with a select that differs from that of the
previous active record, or the BANK group of the bank selected after it (section 6.3, R11). -/
def asksBankChange (groups : List FieldGroup) (prev now : ZoneRecord) : Bool :=
  decide ((FieldGroup.select ∈ groups ∧ prev.eqSelect ≠ now.eqSelect) ∨
    FieldGroup.bank now.eqSelect ∈ groups)

/-- The EQ unit's answer to a change notice (R97). -/
def eqNotice (z : Zone) (groups : List FieldGroup) (prev : ZoneRecord) (s : State) : State :=
  if asksBankChange groups prev (s.active z) then bankChange z s else s

/-- A zone that leaves LIVE and DRAINING takes its bank change at once: it leaves the wait list or frees
its slot, and stands STEADY on the selected bank with zero states (R102). -/
def eqLeave (z : Zone) (s : State) : State :=
  match (s.zone z).eq.mode with
  | .steady => s
  | .wait => eqSetUp z { s with eqWait := s.eqWait.filter fun x => decide (x ≠ z) }
  | .xfade _ _ _ _ => eqGrant (eqSetUp z s)

/-- A DISABLED zone's section states are held at zero (R96). -/
def eqStop (z : Zone) (s : State) : State :=
  s.updEq z fun e =>
    { e with running := { e.running with states := Vector.replicate 8 SectionState.zero } }

/-! ### The gain stage (R104 to R106) -/

/-- The target factor of a record under the gain code named (R104). -/
def targetFactor (r : ZoneRecord) : GainName → Nat
  | .evac => gainFactor r.evacGain
  | .programme => if r.mute then 0 else gainFactor r.gain

/-- The factor of sample period k of a frame, k = 1 to 48 (R105). -/
def GainState.factorAt (g : GainState) (k : Nat) : Nat :=
  (mixInt g.rampFrom g.rampTo k Config.samplesPerFrame).toNat

/-- The scaled sample before saturation (R106). -/
def gainProduct (y : Sample) (f : Nat) : Int := roundAway (y.toInt * f) Config.unityFactor

/-- The gain stage's answer to a power notice (R105): 0 in every state that is not heard. A zone that comes
to be heard ramps from 0 to its target over the frame just opened if no sample of it has been scaled, and
gives 0 for the rest of the frame otherwise. LIVE and DRAINING keep the ramp. The target of a DISABLED zone is 0
(R104; DEDUCED, at once, log entry 28). -/
def GainState.onPower (g : GainState) (before after : PowerState) (sampleIndex : Nat) : GainState :=
  if after.heard then
    if before.heard then g
    else { g with applied := 0, rampFrom := 0, rampTo := if sampleIndex = 0 then g.target else 0 }
  else
    { g with applied := 0, rampFrom := 0, rampTo := 0, target := if after.inService then g.target else 0 }

/-- The gain stage's work at a frame mark: the target formed, and in LIVE and DRAINING the ramp of the frame
set from the applied factor to it (R104, R105). -/
def GainState.atMark (g : GainState) (r : ZoneRecord) (name : GainName) (p : PowerState) : GainState :=
  let t := if p.inService then targetFactor r name else 0
  if p.heard then { g with target := t, rampFrom := g.applied, rampTo := t }
  else { g with target := t, rampFrom := 0, rampTo := 0 }

/-! ### The clip counter (R107) -/

/-- One saturation is counted; the count that takes the counter from 0 to 1 raises CLIP (R107). -/
def clipCount (z : Zone) (byGain : Bool) (s : State) : State :=
  let before := (s.zone z).gain.clip
  let s := s.updGain z fun g => { g with clip := min (g.clip + 1) Config.clipMax }
  if before = 0 then s.raiseAll [.P, .C] (.clip z byGain) else s

/-! ### Rows -/

/-- The crossfade of a zone has been mixed with p = 768 (R100). -/
def crossfadeDue (z : Zone) (s : State) : Bool :=
  match (s.zone z).eq.mode with
  | .xfade _ p _ _ => decide (Config.crossfadeLength ≤ p)
  | .steady | .wait => false

/-- The end of a zone's crossfade: the incoming cascade runs on, the slot is freed, a held change rejoins
the wait list, and the freed slot is granted (R100, R101). -/
def crossfadeFinish (z : Zone) (s : State) : State :=
  match (s.zone z).eq.mode with
  | .xfade inc _ _ true => eqJoin z (s.updEq z fun _ => { mode := .steady, running := inc })
  | .xfade inc _ _ false => eqGrant (s.updEq z fun _ => { mode := .steady, running := inc })
  | .steady | .wait => s

/-- CROSSFADE_END (R100, R101); a crossfade that has not reached p = 768 is left alone. -/
def execCrossfadeEnd (z : Zone) (s : State) : Answer :=
  .next (if crossfadeDue z s then crossfadeFinish z s else s)

/-- CLEAR_CLIP (R108). -/
def takeClearClip (p : Port) (zones : List Nat) (s : State) : Answer :=
  .next (guarded s p 0x11 (decide (p ≠ .V)) fun s =>
    checked s p 0x11 (zoneSet zones) fun zs =>
      let report := bytesList (fun z => bZone z ++ bNat (s.zone z).gain.clip) zs
      (s.eachOf zs fun z s => s.updGain z fun g => { g with clip := 0 }).answer p 0x11 .ok report)

/-- The position of a zone in the EQ wait list, counted from 1 at the oldest (R109). -/
def State.eqPosition (s : State) (z : Zone) : Nat := s.eqWait.idxOf z + 1

/-- What READ_CHAIN reports of one zone (R109). -/
def bChain (s : State) (z : Zone) : List Byte :=
  let x := s.zone z
  bNum1 x.eq.mode.place ++ bNum1 x.eq.running.bank.val ++
    (match x.eq.mode with
      | .xfade inc p k held =>
        1#8 :: (bNum1 inc.bank.val ++ bNat p ++ bNum1 k.val ++ bYes held)
      | .steady | .wait => [0#8]) ++
    (match x.eq.mode with
      | .wait => 1#8 :: bNat (s.eqPosition z)
      | .steady | .xfade _ _ _ _ => [0#8]) ++
    bYes (decide (x.eq.running.sections = (s.active z).banks[(s.active z).eqSelect])) ++
    bNat x.gain.applied ++ bNat x.gain.target ++ bNum1 x.route.named.place ++
    bYes (s.active z).mute ++ bNat x.gain.clip

/-- READ_CHAIN (R109). -/
def takeReadChain (p : Port) (zones : List Nat) (s : State) : Answer :=
  .next (guarded s p 0x12 true fun s =>
    checked s p 0x12 (zoneSet zones) fun zs =>
      s.answer p 0x12 .ok
        (bytesList (bChain s) zs ++
          (List.finRange 4).flatMap (fun k => bytesOption bZone (s.slotHolder k)) ++
          bytesList bZone s.eqWait))

end Sys2Proof.Machine
end

