-- ==== Sys2Proof/Machine/Power.lean ====
section
/-! DEFINITION. Chapter 8: zone power states. A change of state with its power notice (R130), draining
(R72, R139), the wake wait list and the wake limiter (R135, R136, R138), READ_POWER (R142). -/

namespace Sys2Proof.Machine

/-- A change of a zone's power state and the answers to its power notice (R130): frames in state 0, the
EQ unit by R102 and R96, the gain stage by R105. The coming frame mark is left uncounted where an event of it has
been told (`atMark`); a command told before its FRAME_MARK falls before it (DESIGN CHOICE, log entry 5). -/
def setPower (z : Zone) (new : PowerState) (s : State) : State :=
  let old := s.powerOf z
  let s := s.updPower z fun _ => { state := new, framesInState := 0, fresh := s.atMark }
  let s := s.updGain z fun g => g.onPower old new s.sampleIndex
  let s := if old.heard ∧ ¬ new.heard then eqLeave z s else s
  if new.inService then s else eqStop z s

/-- The flush length: ⌈D_cur / 3,072⌉ + 1 frames (R72). -/
def flushLength (dCur : Nat) : Nat := ceilDiv dCur Config.finePerFrame + 1

/-- The drain time of a zone that enters DRAINING: the greater of its park hang and its flush length
(R72, R139). -/
def State.drainTime (s : State) (z : Zone) : Nat :=
  max (s.active z).parkHang (flushLength (s.zone z).line.dCur)

/-- A zone enters DRAINING (R133, R134, R139). -/
def enterDraining (z : Zone) (s : State) : State :=
  setPower z (.draining (s.drainTime z) (s.drainTime z)) s

/-- The winner of a route state: the head of the set in the order of R120. -/
def RouteState.winner (r : RouteState) : Option RouteEntry := r.entries.head?

/-- The winner of a zone (R112). -/
def State.winner (s : State) (z : Zone) : Option RouteEntry := (s.zone z).route.winner

/-- The level of a zone's winner, 0 where there is none. -/
def State.winnerLevel (s : State) (z : Zone) : Nat := ((s.winner z).map (·.level)).getD 0

/-- The zone power unit's answer to a winner notice (R133). -/
def winnerPower (z : Zone) (before after : Option RouteEntry) (s : State) : State :=
  match s.powerOf z, before, after with
  | .parked, none, some _ => setPower z .wakeWait s
  | .wakeWait, some _, none => setPower z .parked s
  | .waking _, some _, none => enterDraining z s
  | .draining _ _, none, some _ => setPower z .live s
  | _, _, _ => s

/-- The zone power unit's answer to a fade end notice: silence reported for a LIVE zone with an empty set
takes it to DRAINING (R134). -/
def fadeEndPower (z : Zone) (s : State) : State :=
  if s.powerOf z = .live ∧ (s.zone z).route.fade = .atRest none ∧ (s.zone z).route.entries = [] then
    enterDraining z s
  else s

/-! ### The wake wait list and the limiter (R135, R136) -/

/-- Zone a is served before zone b: higher winner level, among equals lower zone number (R135). -/
def State.servedBefore (s : State) (a b : Zone) : Bool :=
  decide (s.winnerLevel b < s.winnerLevel a ∨ (s.winnerLevel a = s.winnerLevel b ∧ a.val ≤ b.val))

/-- A zone put in its place in a service order. -/
def serviceInsert (s : State) (z : Zone) : List Zone → List Zone
  | [] => [z]
  | y :: rest => if s.servedBefore z y then z :: y :: rest else y :: serviceInsert s z rest

/-- The wake wait list in its service order: the zones in WAKE_WAIT (R135). -/
def State.wakeList (s : State) : List Zone :=
  (allZones.filter fun z => decide (s.powerOf z = .wakeWait)).foldr (serviceInsert s) []

/-- The grants counted over the latest n frame marks of the history (R136). -/
def State.grantsIn (s : State) (n : Nat) : Nat := (s.history.toList.take n).sum

/-- The allowance a frame mark would form from the history before it (R136). -/
def State.allowance (s : State) : Nat :=
  s.settings.wakeMax - s.grantsIn (s.settings.wakeWindow - 1)

/-- The history with a new latest count, the oldest forgotten (R136). -/
def pushHistory (h : Vector Nat 100) (n : Nat) : Vector Nat 100 :=
  Vector.ofFn fun i => if h0 : i.val = 0 then n else h[i.val - 1]

/-- A grant: WAKING with the wake time of the active record, and LIVE at once where that is 0 (R138). -/
def grant (z : Zone) (s : State) : State :=
  let w := (s.active z).wakeTime
  let s := setPower z (.waking w) s
  if w = 0 then setPower z .live s else s

/-- The zones the limiter grants at a frame mark: in service order, as many as the allowance (R136). -/
def State.granted (s : State) : List Zone := s.wakeList.take s.allowance

/-- The wake limiter's work at a frame mark (R136). -/
def limiterWork (s : State) : State :=
  let zs := s.granted
  let s := { s with history := pushHistory s.history zs.length }
  s.eachOf zs grant

/-! ### Reading (R142) -/

/-- What READ_POWER reports of one zone (R142). -/
def bPower (s : State) (z : Zone) : List Byte :=
  let x := (s.zone z).power
  bNum1 x.state.place ++ bYes x.state.enable ++ bNat x.framesInState ++
    bytesOption (fun e => bNum1 e.level) (s.winner z) ++
    (match x.state with
      | .waking n => 1#8 :: bNat n
      | _ => [0#8]) ++
    (match x.state with
      | .draining t n => 1#8 :: (bNat t ++ bNat n)
      | _ => [0#8])

/-- READ_POWER (R142). -/
def takeReadPower (p : Port) (zones : List Nat) (s : State) : Answer :=
  .next (guarded s p 0x19 true fun s =>
    checked s p 0x19 (zoneSet zones) fun zs =>
      s.answer p 0x19 .ok
        (bytesList (bPower s) zs ++
          bytesList (fun z => bZone z ++ bNum1 (s.winnerLevel z)) s.wakeList ++
          bNat s.settings.wakeMax ++ bNat s.settings.wakeWindow ++
          bNat (s.grantsIn (s.settings.wakeWindow - 1)) ++ bNat s.allowance))

end Sys2Proof.Machine
end

