-- ==== Sys2Proof/Machine/RouteOps.lean ====
section
/-! DEFINITION. Chapter 7, the shared operations: the order of the selection (R120), the fade record's answer
to a winner notice (R121, R123 to R126), the fade mix (R122), and a change of a zone's route set with the
answers of the route unit and the zone power unit (R120). The probe's answer is added in Probe.lean. -/

namespace Sys2Proof.Machine

/-- Among equal levels and sources port V wins, then C, then P (R120). -/
def portRank : Port → Nat
  | .V => 0
  | .C => 1
  | .P => 2

/-- Entry a is selected before entry b (R120). -/
def RouteEntry.before (a b : RouteEntry) : Bool :=
  decide (b.level < a.level ∨
    (a.level = b.level ∧ (a.source < b.source ∨
      (a.source = b.source ∧ portRank a.port < portRank b.port))))

/-- An entry put in its place in the order of the selection. -/
def routeInsert (e : RouteEntry) : List RouteEntry → List RouteEntry
  | [] => [e]
  | x :: rest => if e.before x then e :: x :: rest else x :: routeInsert e rest

/-- The entry of a key, port and source (R111). -/
def RouteEntry.hasKey (p : Port) (src : Source) (e : RouteEntry) : Bool :=
  decide (e.port = p ∧ e.source = src)

/-- A set without the entry of a key. -/
def routeRemove (p : Port) (src : Source) (l : List RouteEntry) : List RouteEntry :=
  l.filter fun e => !e.hasKey p src

/-- A set with the entry of a key raised to a level: added, or its level replaced (R114). -/
def routePut (e : RouteEntry) (l : List RouteEntry) : List RouteEntry :=
  routeInsert e (routeRemove e.port e.source l)

/-! ### Fades -/

/-- The length N of a fade toward a winner, or toward silence: 8 frames at an evacuation level, the fade
length otherwise (R121). -/
def fadeLengthTo (fadeLength : Nat) : Option RouteEntry → Nat
  | some e => if 6 ≤ e.level then Config.evacFade else fadeLength * Config.samplesPerFrame
  | none => fadeLength * Config.samplesPerFrame

/-- The fade record's answer to a winner notice in LIVE or DRAINING, and whether it makes a cut or ends a
fade at the event (R121, R123, R124). -/
def Fade.toward (f : Fade) (src : Option Source) (n : Nat) : Fade × Bool :=
  match f with
  | .atRest rest =>
    if src = rest then (f, false)
    else if n = 0 then (.atRest src, true)
    else (.fading rest src 0 n true, false)
  | .fading out inc p old _ =>
    if src = out ∨ src = inc then
      let up' := if src = out then false else true
      let p' := if n = old then p else (roundUp (p * n) old).toNat
      if n = 0 ∨ (up' = false ∧ p' = 0) ∨ (up' = true ∧ p' = n) then (.atRest src, true)
      else (.fading out inc p' n up', false)
    else
      let p' := min p n
      if n = 0 ∨ p' = n then (.atRest src, true) else (.fading out src p' n true, false)

/-- The fade record's answer to a winner notice by the zone's power state: set at rest on the winner's
source in PARKED, WAKE_WAIT and WAKING (R126). -/
def Fade.onWinner (f : Fade) (p : PowerState) (fadeLength : Nat) (w : Option RouteEntry) :
    Fade × Bool :=
  if p.heard then f.toward (w.map (·.source)) (fadeLengthTo fadeLength w)
  else (.atRest (w.map (·.source)), false)

/-- A fade has been mixed with its last p: N going up, 0 going down (R122). -/
def Fade.done : Fade → Bool
  | .atRest _ => false
  | .fading _ _ p n up => if up then decide (n ≤ p) else decide (p = 0)

/-- A fade at its end rests on the source it headed for (R122). -/
def Fade.finish : Fade → Fade
  | .atRest r => .atRest r
  | .fading out inc _ _ up => .atRest (if up then inc else out)

/-- One sample period of a fade record: p moves first (R122). -/
def Fade.step : Fade → Fade
  | .atRest r => .atRest r
  | .fading out inc p n up => .fading out inc (if up then min (p + 1) n else p - 1) n up

/-- The fade mix of a sample period, from the samples of the sources (R112, R122); silence gives 0. -/
def Fade.mix (f : Fade) (sample : Option Source → Sample) : Sample :=
  match f with
  | .atRest r => sample r
  | .fading out inc p n _ => BitVec.ofInt 24 (mixInt (sample out).toInt (sample inc).toInt p n)

/-! ### A change of a route set -/

/-- A zone's route set becomes the entries given, in their order, with the answers of the route unit and
the zone power unit to the winner notice that may follow (R120, R125, R133, R134). -/
def setRoutes (z : Zone) (entries : List RouteEntry) (s : State) : State :=
  let before := s.winner z
  let s := s.updRoute z fun r => { r with entries := entries }
  let after := s.winner z
  if before = after then s
  else
    let (fade, ended) :=
      (s.zone z).route.fade.onWinner (s.powerOf z) (s.active z).fadeLength after
    let s := s.updRoute z fun r => { r with fade := fade }
    let s := winnerPower z before after s
    if ended then fadeEndPower z s else s

/-- The outcome of a raise in one zone (R113 to R115). -/
inductive RaiseOutcome where
  | taken
  | evicted (e : RouteEntry)
  | zoneDisabled
  | routeFull
  deriving DecidableEq, Repr

/-- The entry a request of port V evicts: the lowest level among entries of ports P and C, then the highest
source, then port P before port C (R115). -/
def evictee (l : List RouteEntry) : Option RouteEntry :=
  (l.filter fun e => decide (e.port ≠ .V)).foldl
    (fun best e => match best with
      | none => some e
      | some b =>
        if e.level < b.level ∨ (e.level = b.level ∧ (b.source < e.source ∨
            (b.source = e.source ∧ e.port = .P ∧ b.port = .C))) then some e else some b)
    none

/-- What becomes of a raise in a zone's set (R114, R115). -/
def raiseOutcome (s : State) (z : Zone) (e : RouteEntry) : RaiseOutcome :=
  let l := (s.zone z).route.entries
  if s.powerOf z = .disabled then .zoneDisabled
  else if l.any (RouteEntry.hasKey e.port e.source) then .taken
  else if l.length < Config.routePlaces then .taken
  else if e.port = .V then
    match evictee l with
    | some x => .evicted x
    | none => .routeFull
  else .routeFull

/-- The zone's set after a raise (R114, R115). -/
def raisedSet (l : List RouteEntry) (e : RouteEntry) : RaiseOutcome → List RouteEntry
  | .taken => routePut e l
  | .evicted x => routePut e (routeRemove x.port x.source l)
  | .zoneDisabled | .routeFull => l

/-- The set of some zone holds an entry of port V (R132, R193). -/
def State.holdsV (s : State) (z : Zone) : Bool :=
  (s.zone z).route.entries.any fun e => decide (e.port = .V)

end Sys2Proof.Machine
end

