-- ==== Sys2Proof/Machine/Queue.lean ====
section
/-! DEFINITION. Chapter 2 and the writes of Chapter 1: the change queue and the apply unit. Acceptance of
change commands (R20 to R25), SCENE offers (R26), the choice of the next entry (R27 to R29), completion
with its checks and outcomes (R30 to R33), the writes into the shadow record (R7, R8), the transfer's copy
(R9), READ_QUEUE (R34) and READ_RECORD (R14). -/

namespace Sys2Proof.Machine

/-! ### Entries and keys (R18) -/

/-- The kind of a change (R18). -/
def Change.kind : Change → ChangeKind
  | .gain .. => .gain
  | .eqSelect .. => .eqSelect
  | .eqBank .. => .eqBank
  | .geometry .. => .geometry
  | .coupling .. => .coupling
  | .timing .. => .timing
  | .evacGain .. => .evacGain
  | .scene .. => .scene

/-- The bank of a change; absent for every kind but EQ_BANK (R18). -/
def Change.bank : Change → Option (Fin 4)
  | .eqBank b _ => some b
  | _ => none

/-- Two entries share a key: port, zone, kind and bank (R18). -/
def QueueEntry.sameKey (a b : QueueEntry) : Bool :=
  decide (a.port = b.port ∧ a.zone = b.zone ∧ a.change.kind = b.change.kind ∧
    a.change.bank = b.change.bank)

/-- The count of frame marks to come of a kind when its entry is taken (R30). -/
def ChangeKind.marks : ChangeKind → Nat
  | .eqBank => 2
  | .scene => 4
  | .gain | .eqSelect | .geometry | .coupling | .timing | .evacGain => 1

/-- The entries of a port in the queue. -/
def ChangeQueue.countOf (q : ChangeQueue) (p : Port) : Nat :=
  (q.entries.filter fun e => decide (e.port = p)).length

/-- The entries of ports P and C together (R18). -/
def ChangeQueue.countPC (q : ChangeQueue) : Nat :=
  (q.entries.filter fun e => decide (e.port ≠ .V)).length

/-- The queue has room for an entry of the port (R24). -/
def ChangeQueue.hasRoom (q : ChangeQueue) (p : Port) : Bool :=
  decide (q.entries.length < Config.queuePlaces ∧ (p = .V ∨ q.countPC < Config.queuePlacesPC))

/-! ### Taking an entry (R27, R28) -/

/-- The place of the oldest entry of a port. -/
def oldestOf (p : Port) (l : List QueueEntry) : Option Nat :=
  l.findIdx? fun e => decide (e.port = p)

/-- The place of the entry the apply unit takes: the oldest where its bypass count equals BYPASS_MAX, and
otherwise the oldest of the first of V, C, P that has one (R28). -/
def takePlace (bypassMax : Nat) : List QueueEntry → Option Nat
  | [] => none
  | e :: rest =>
    if e.bypass = bypassMax then some 0
    else (oldestOf .V (e :: rest)).or ((oldestOf .C (e :: rest)).or (oldestOf .P (e :: rest)))

/-- The queue less the entry at a place, every older entry's bypass count raised by one (R28). -/
def takenQueue (i : Nat) (l : List QueueEntry) : List QueueEntry :=
  ((l.take i).map fun e => { e with bypass := e.bypass + 1 }) ++ l.drop (i + 1)

/-- A FREE apply unit takes the next entry; an APPLYING one, or an empty queue, takes none (R27, R28,
R30). -/
def takeNext (s : State) : State :=
  match s.queue.hand, takePlace s.settings.bypassMax s.queue.entries with
  | none, some i =>
    match s.queue.entries[i]? with
    | some e =>
      { s with queue :=
          { entries := takenQueue i s.queue.entries,
            hand := some { entry := e, marks := e.change.kind.marks, fresh := s.atMark } } }
    | none => s
  | _, _ => s

/-! ### Merging and appending (R23 to R26) -/

/-- What became of an offer (R25, R26), with the position of the entry counted from 1 at the oldest. -/
inductive Offer where
  | merged (position : Nat)
  | appended (position : Nat)
  | full
  deriving DecidableEq, Repr

/-- The payload of the entry of the same key replaced; its place and bypass count are kept (R23). -/
def mergeInto (e : QueueEntry) (l : List QueueEntry) : List QueueEntry :=
  l.map fun x => if x.sameKey e then { x with change := e.change } else x

/-- What becomes of an offer (R23, R24). -/
def offerOutcome (q : ChangeQueue) (e : QueueEntry) : Offer :=
  match q.entries.findIdx? (fun x => x.sameKey e) with
  | some i => .merged (i + 1)
  | none => if q.hasRoom e.port then .appended (q.entries.length + 1) else .full

/-- The queue after an offer, before any taking (R23, R25). -/
def offered (q : ChangeQueue) (e : QueueEntry) : Offer → ChangeQueue
  | .merged _ => { q with entries := mergeInto e q.entries }
  | .appended _ => { q with entries := q.entries ++ [e] }
  | .full => q

/-- An offer is merged, appended, or refused as full; an append to a FREE apply unit is followed by a taking
(R23 to R27). -/
def offer (e : QueueEntry) (s : State) : State :=
  let o := offerOutcome s.queue e
  let s := { s with queue := offered s.queue e o }
  match o with
  | .appended _ => takeNext s
  | .merged _ | .full => s

/-- The payload of a QUEUED, MERGED or OK_CLAMPED answer (R25). -/
def bOffer (q : ChangeQueue) (p : Port) (o : Offer) (limited : List Nat) : List Byte :=
  (match o with
    | .merged i => bNum1 1 ++ bNat i
    | .appended i => bNum1 0 ++ bNat i
    | .full => []) ++ bNat (q.countOf p) ++ bLimited limited

/-- The result of an offer that was merged or appended (R21, R23, R25). -/
def offerResult (o : Offer) (limited : List Nat) : Result :=
  match o with
  | .full => .queueFull
  | .merged _ => if limited = [] then .merged else .okClamped
  | .appended _ => if limited = [] then .queued else .okClamped

/-- Steps 4 to 7 of the acceptance of a change (section 2.2): the lock where the kind is subject to it, then
merge, capacity and append, and the answer. `extra` stands before the payload of R25 (R159). -/
def acceptChange (p : Port) (code : Nat) (z : ZoneTarget) (c : Change) (limited : List Nat)
    (extra : List Byte) (s : State) : State :=
  let locked := match c.kind, z with
    | .geometry, .one z => s.lockHolds z
    | .eqBank, .one z => s.lockHolds z
    | .coupling, .one z => s.lockHolds z
    | _, _ => false
  if locked then s.answer p code .locked extra
  else
    let e : QueueEntry := { port := p, zone := z, change := c, bypass := 0 }
    let o := offerOutcome s.queue e
    match o with
    | .full => s.answer p code .queueFull extra
    | .merged _ | .appended _ =>
      (offer e s).answer p code (offerResult o limited)
        (extra ++ bOffer (offered s.queue e o) p o limited)

/-! ### The change commands (R19 to R25) -/

/-- GAIN from ports P and C (R19, R20, R21). -/
def takeGain (p : Port) (zone : ZoneSel) (code : Int) (mute : Choice) (s : State) : Answer :=
  .next (guarded s p 0x02 (decide (p ≠ .V)) fun s =>
    checked s p 0x02 (zoneTarget zone) fun z =>
      checked s p 0x02 (choiceBool mute) fun m =>
        acceptChange p 0x02 z (.gain (limit (-160) 24 code) m)
          (limitedFields [⟨1, -160, 24, code⟩]) [] s)

/-- EQ_SELECT from ports P and C (R19, R20). -/
def takeEqSelect (p : Port) (zone : ZoneSel) (select : Nat) (s : State) : Answer :=
  .next (guarded s p 0x03 (decide (p ≠ .V)) fun s =>
    checked s p 0x03 (zoneTarget zone) fun z =>
      checked s p 0x03 (toFin 4 select) fun k =>
        acceptChange p 0x03 z (.eqSelect k) [] [] s)

/-- One section of an EQ_BANK command, its bypass checked (R20). -/
def sectionOf (a : SectionArg) : Option Section :=
  (choiceBool a.bypass).map fun b =>
    { bypass := b, b0 := a.b0, b1 := a.b1, b2 := a.b2, a1 := a.a1, a2 := a.a2 }

/-- The eight sections of an EQ_BANK command (R19, R20). -/
def bankOf (l : List SectionArg) : Option Bank := do
  let x ← checkAll sectionOf l
  if h : x.length = 8 then some ⟨⟨x⟩, h⟩ else none

/-- EQ_BANK from port C (R19, R20, R22). -/
def takeEqBank (p : Port) (zone : ZoneSel) (bank : Nat) (sections : List SectionArg) (s : State) :
    Answer :=
  .next (guarded s p 0x04 (decide (p = .C)) fun s =>
    checked s p 0x04 (zoneOnly zone) fun z =>
      checked s p 0x04 (toFin 4 bank) fun k =>
        checked s p 0x04 (bankOf sections) fun x =>
          acceptChange p 0x04 (.one z) (.eqBank k x) [] [] s)

/-- The numeric fields of GEOMETRY with their ranges (R2, R21). -/
def geometryFields (g : GeometryArg) : List Numeric :=
  [⟨1, 0, 400000, g.pathLength⟩, ⟨2, 0, 960, g.precedence⟩, ⟨3, -6400, 6400, g.trim⟩] ++
    allSlots.map fun n => ⟨4 + n.val, 0, 15, g.weights[n]⟩

/-- The values of a GEOMETRY change, limited (R21). -/
def geometryOf (g : GeometryArg) (reference : Option Zone) : Geometry :=
  { pathLength := limit 0 400000 g.pathLength, precedence := limit 0 960 g.precedence,
    trim := limit (-6400) 6400 g.trim,
    weights := Vector.ofFn fun n => limitNat 0 15 g.weights[n], reference := reference }

/-- GEOMETRY from port C (R19 to R22). -/
def takeGeometry (p : Port) (zone : ZoneSel) (values : GeometryArg) (s : State) : Answer :=
  .next (guarded s p 0x05 (decide (p = .C)) fun s =>
    checked s p 0x05 (zoneOnly zone) fun z =>
      checked s p 0x05 (checkOption zoneOf values.reference) fun r =>
        acceptChange p 0x05 (.one z) (.geometry (geometryOf values r))
          (limitedFields (geometryFields values)) [] s)

/-- A coupling that is present, its leader checked and its offset limited (R20, R21). -/
def couplingOf (k : CouplingArg) : Option Coupling :=
  (zoneOf k.leader).map fun l => { leader := l, offset := limit (-64000) 64000 k.offset }

/-- The numeric field of COUPLING (R21). -/
def couplingFields : Option CouplingArg → List Numeric
  | some k => [⟨2, -64000, 64000, k.offset⟩]
  | none => []

/-- COUPLING from port C (R19 to R22). -/
def takeCoupling (p : Port) (zone : ZoneSel) (value : Option CouplingArg) (s : State) : Answer :=
  .next (guarded s p 0x06 (decide (p = .C)) fun s =>
    checked s p 0x06 (zoneOnly zone) fun z =>
      checked s p 0x06 (checkOption couplingOf value) fun k =>
        acceptChange p 0x06 (.one z) (.coupling k) (limitedFields (couplingFields value)) [] s)

/-- The values of a TIMING change, limited (R3, R21). -/
def timingOf (t : TimingArg) : Timing :=
  { slew := limitNat 1 64 t.slew, fadeLength := limitNat 0 255 t.fadeLength,
    wakeTime := limitNat 0 1000 t.wakeTime, parkHang := limitNat 0 60000 t.parkHang }

/-- TIMING from port C (R19 to R21). -/
def takeTiming (p : Port) (zone : ZoneSel) (values : TimingArg) (s : State) : Answer :=
  .next (guarded s p 0x07 (decide (p = .C)) fun s =>
    checked s p 0x07 (zoneTarget zone) fun z =>
      acceptChange p 0x07 z (.timing (timingOf values))
        (limitedFields [⟨1, 1, 64, values.slew⟩, ⟨2, 0, 255, values.fadeLength⟩,
          ⟨3, 0, 1000, values.wakeTime⟩, ⟨4, 0, 60000, values.parkHang⟩]) [] s)

/-- EVAC_GAIN from port V (R19 to R21). -/
def takeEvacGain (p : Port) (zone : ZoneSel) (code : Int) (s : State) : Answer :=
  .next (guarded s p 0x08 (decide (p = .V)) fun s =>
    checked s p 0x08 (zoneTarget zone) fun z =>
      acceptChange p 0x08 z (.evacGain (limit (-160) 24 code))
        (limitedFields [⟨1, -160, 24, code⟩]) [] s)

/-! ### Completion (R30 to R33) -/

/-- The groups a change writes (R6, R19). -/
def Change.groups : Change → List FieldGroup
  | .gain .. => [.level]
  | .eqSelect .. => [.select]
  | .eqBank b _ => [.bank b]
  | .geometry .. => [.geometry]
  | .coupling .. => [.coupling]
  | .timing .. => [.timing]
  | .evacGain .. => [.evac]
  | .scene .. => [.select, .level]

/-- A record with the fields of a change's group taking the change's values (R7, R8). -/
def Change.write (c : Change) (z : Zone) (r : ZoneRecord) : ZoneRecord :=
  match c with
  | .gain g m => { r with gain := g, mute := m }
  | .eqSelect k => { r with eqSelect := k }
  | .eqBank b x => { r with banks := r.banks.set b x }
  | .geometry g =>
    { r with
      pathLength := g.pathLength, precedence := g.precedence, trim := g.trim,
      weights := g.weights, reference := g.reference }
  | .coupling k => { r with coupling := k }
  | .timing t =>
    { r with
      slew := t.slew, fadeLength := t.fadeLength, wakeTime := t.wakeTime, parkHang := t.parkHang }
  | .evacGain g => { r with evacGain := g }
  | .scene x => { r with gain := x[z].gain, mute := x[z].mute, eqSelect := x[z].select }

/-- A change written into the shadow record of one zone, its groups joining the pending group set (R7,
R8). -/
def writeShadow (c : Change) (z : Zone) (s : State) : State :=
  s.updEntry z fun e =>
    { e with shadow := c.write z e.shadow, groups := c.groups.foldr joinGroup e.groups }

/-- A change written into the shadow record of the zone it names, or of every zone (R7, R8). -/
def writeChange (c : Change) (t : ZoneTarget) (s : State) : State :=
  match t with
  | .one z => writeShadow c z s
  | .all => s.eachZone (writeShadow c)

/-- A COUPLING of zone z to leader l fails against the shadow records (R32): l is z, l is a follower, or z
is the leader of some other zone. -/
def badCoupling (s : State) (z l : Zone) : Bool :=
  decide (l = z) || (s.shadow l).coupling.isSome ||
    allZones.any fun y =>
      decide (y ≠ z) && (s.shadow y).coupling.any fun k => decide (k.leader = z)

/-- Why a completing change is dropped, if it is (R31, R32). A COUPLING that fails both checks is dropped LOCKED
(DESIGN CHOICE, log entry 30: the manual gives the two checks no order). -/
def dropReason (s : State) (t : ZoneTarget) (c : Change) : Option DropReason :=
  match t, c with
  | .one z, .geometry _ => if s.lockHolds z then some .locked else none
  | .one z, .eqBank _ _ => if s.lockHolds z then some .locked else none
  | .one z, .coupling k =>
    if s.lockHolds z then some .locked
    else match k with
      | some k => if badCoupling s z k.leader then some .badCoupling else none
      | none => none
  | _, _ => none

/-- The change lands in the shadow records, or is dropped with CHANGE_DROPPED (R30, R33). -/
def landChange (e : QueueEntry) (s : State) : State :=
  match dropReason s e.zone e.change with
  | some r => s.raise e.port (.changeDropped e.zone e.change.kind r)
  | none => writeChange e.change e.zone s

/-- QUEUE_DRAINED is raised where the queue holds no entry of the completed entry's port (R33). -/
def raiseDrained (e : QueueEntry) (s : State) : State :=
  if s.queue.countOf e.port = 0 then s.raise e.port (.queueDrained e.zone e.change.kind) else s

/-- The completion of the entry in hand: written or dropped, discarded, the outcomes raised, the next entry
taken (R30). -/
def completeHand (s : State) : State :=
  match s.queue.hand with
  | some h =>
    let s := landChange h.entry s
    let s := { s with queue := { s.queue with hand := none } }
    takeNext (raiseDrained h.entry s)
  | none => s

/-- The entry in hand has come to its completion frame mark, whose FRAME_MARK has been taken. -/
def changeDue (s : State) : Bool :=
  match s.queue.hand with
  | some h => decide (h.marks = 0)
  | none => false

/-- The entry in hand completes at the coming frame mark (R10, completion first). -/
def changeDueNext (s : State) : Bool :=
  match s.queue.hand with
  | some h => s.frameOver && decide (h.marks = 1 ∧ h.fresh = false)
  | none => false

/-- CHANGE_COMPLETE (R30): after its FRAME_MARK or before it (R10, log entry 5). -/
def execChangeComplete (s : State) : Answer :=
  .next (if changeDue s then completeHand s
    else if changeDueNext s then completeHand { s with atMark := true }
    else s)

/-! ### The transfer (R9) -/

/-- A dirty zone's shadow record copied into its active record, its pending group set emptied (R9). -/
def transferEntry (e : TableEntry) : TableEntry :=
  if e.dirty then { e with active := e.shadow, groups := [] } else e

/-- The answers of the consuming blocks to a change notice (R11, R12). -/
def changeNotice (z : Zone) (groups : List FieldGroup) (prev : ZoneRecord) (s : State) : State :=
  eqNotice z groups prev (targetNotice z groups s)

/-- The change notice a transfer hands for a zone that was dirty (R9). -/
def transferNotice (before : State) (z : Zone) (s : State) : State :=
  if (before.zone z).entry.dirty then
    changeNotice z (before.zone z).entry.groups (before.active z) s
  else s

/-- The transfer of a frame mark: every dirty zone copied, then the change notices in zone order (R9). -/
def transferWork (s : State) : State :=
  let copied := s.eachZone fun z s => s.updEntry z transferEntry
  copied.eachZone (transferNotice s)

/-! ### Reading (R14, R34) -/

/-- An entry of the queue as READ_QUEUE reports it, less its last item (R34). -/
def bEntry (e : QueueEntry) : List Byte :=
  bPort e.port ++ bTarget e.zone ++ bNum1 e.change.kind.place ++
    bytesOption (fun b => bNum1 (Fin.val b)) e.change.bank

/-- READ_QUEUE (R34). -/
def takeReadQueue (p : Port) (s : State) : Answer :=
  .next (guarded s p 0x09 true fun s =>
    s.answer p 0x09 .ok
      (bNum1 (if s.queue.hand.isSome then 1 else 0) ++
        bytesOption (fun h => bEntry h.entry ++ bNat h.marks) s.queue.hand ++
        bytesList (fun e => bEntry e ++ bNat e.bypass) s.queue.entries ++
        bNat (s.queue.countOf .V) ++ bNat s.queue.countPC ++ bNat s.settings.bypassMax))

/-- READ_RECORD (R14). -/
def takeReadRecord (p : Port) (zone : Nat) (copy : Choice) (s : State) : Answer :=
  .next (guarded s p 0x01 true fun s =>
    checked s p 0x01 (zoneOf zone) fun z =>
      checked s p 0x01 (choiceBool copy) fun isActive =>
        let e := (s.zone z).entry
        s.answer p 0x01 .ok
          (bZone z ++ bNum1 (if isActive then 0 else 1) ++
            bRecord (if isActive then e.active else e.shadow) ++
            bYes e.dirty ++ bytesList (fun g => bNum1 g.place) e.groups ++
            bNum1 e.status.origin.place ++ bNum1 (if e.status.allocDropped then 1 else 0) ++
            bYes e.status.couplingDropped))

end Sys2Proof.Machine
end

