-- ==== Sys2Proof/Machine/Probe.lean ====
section
/-! DEFINITION. Chapter 9: the alignment probe. Settings (R145, R146), runs and their start (R147 to R150),
periods, detection and results (R151 to R154), disturbances (R155, R156), stopping and clearing (R157),
READ_PROBE (R158) and PROBE_ADOPT (R159). -/

namespace Sys2Proof.Machine

/-! ### The probe's entry (R119) -/

/-- The probe's route entry: port C, S8, level 5 (R119). -/
def probeEntry : RouteEntry := { port := .C, source := 8, level := 5 }

/-- The probe changed. -/
def State.updProbe (s : State) (f : ProbeUnit → ProbeUnit) : State := { s with probe := f s.probe }

/-- The probe zone: that of the current copy. -/
def State.probeZone (s : State) : Zone := s.probe.current.zone

/-- The probe drops its entry in a zone, if the set holds it; the notice returns to a probe that does not
answer it (R119, R147). -/
def probeDrop (z : Zone) (s : State) : State :=
  setRoutes z (routeRemove .C 8 (s.zone z).route.entries) s

/-- A route entry is the probe's. -/
def RouteEntry.isProbe (e : RouteEntry) : Bool := e.hasKey .C 8

/-- AT_REST (R112). -/
def Fade.isAtRest : Fade → Bool
  | .atRest _ => true
  | .fading .. => false

/-- The zone is LIVE, its winner is the S8 entry and its fade state AT_REST (R150). -/
def probeReady (z : Zone) (s : State) : Bool :=
  decide (s.powerOf z = .live) && (s.winner z).any RouteEntry.isProbe && (s.zone z).route.fade.isAtRest

/-- The test of R150: a WAITING_ZONE probe enters RUNNING, its first period at the next frame mark, or at the
following one where an event of the coming frame mark has been told (`atMark`); a command or an edge told before its
FRAME_MARK falls before it (DESIGN CHOICE, log entry 5). -/
def probeTest (s : State) : State :=
  match s.probe.state with
  | .waitingZone =>
    if probeReady s.probeZone s then
      s.updProbe fun x => { x with state := .running (.toOpen (if s.atMark then 2 else 1)) }
    else s
  | .idle | .armed _ | .running _ | .stopping _ => s

/-! ### Periods, samples and results (R151 to R153) -/

/-- The run record of RUNNING and STOPPING (R147). -/
def ProbeState.run : ProbeState → Option Run
  | .running r => some r
  | .stopping r => some r
  | .idle | .armed _ | .waitingZone => none

/-- The run record changed, the state kept. -/
def ProbeState.setRun (r : Run) : ProbeState → ProbeState
  | .running _ => .running r
  | .stopping _ => .stopping r
  | x => x

/-- The detection record at the opening of a period (R151, R152). -/
def Window.initial : Window :=
  { k := 0, prev := 0, crossing := none, peak := 0, overload := false, slewing := false }

/-- The magnitude of a sample; that of −8,388,608 is 8,388,608 (R152). -/
def magnitude (m : Sample) : Nat := m.toInt.natAbs

/-- The crossing at sample k of magnitude a, the sample before of magnitude prev (R152). -/
def crossingAt (thr k prev a : Nat) : Option Crossing :=
  if thr ≤ a then
    if k = 0 then some { raw := 0, early := true }
    else some
      { raw := (k - 1) * 64 + (roundUp (64 * ((thr : Int) - prev)) (a - prev)).toNat, early := false }
  else none

/-- One sample period of an open window (R152). -/
def Window.sample (w : Window) (thr : Nat) (m : Sample) : Window :=
  let a := magnitude m
  { w with
    k := w.k + 1, prev := a,
    crossing := w.crossing.or (crossingAt thr w.k w.prev a),
    peak := max w.peak a, overload := w.overload || decide (8388607 ≤ a) }

/-- The open window of the run record. -/
def Run.window : Run → Option Window
  | .opened _ _ w _ => w
  | .toOpen _ => none

/-- The open window of the probe. -/
def State.openWindow (s : State) : Option Window := s.probe.state.run.bind Run.window

/-- The sample S8 gives in the present sample period (R151). -/
def probeSample (s : State) : Sample :=
  match s.openWindow with
  | some w =>
    if w.k < s.probe.current.width then BitVec.ofNat 24 (pulseLevel s.probe.current.gain) else 0#24
  | none => 0#24

/-- The probe's work in a sample period: the measurement source sampled while the window is open (R152). -/
def probeListen (inputs : Vector Sample 8) (s : State) : State :=
  match s.probe.state.run with
  | some (.opened e d (some w) b) =>
    let w := w.sample s.probe.current.threshold inputs[s.probe.current.source]
    s.updProbe fun x => { x with state := x.state.setRun (.opened e d (some w) b) }
  | _ => s

/-- A result appended, the oldest of a full list removed, and PROBE_RESULT raised to port C (R153). -/
def appendResult (r : ProbeResult) (s : State) : State :=
  let s := s.updProbe fun x =>
    let l := x.results ++ [r]
    { x with results := l.drop (l.length - Config.probeResults) }
  s.raise .C (.probeResult r.zone r.status r.acoustic)

/-- The result of a window that closes normally (R153). -/
def closedResult (z : Zone) (d : Nat) (w : Window) : ProbeResult :=
  { zone := z, status := if w.crossing.isSome then .found else .notFound,
    raw := w.crossing.map (·.raw), emission := d, peak := w.peak,
    early := (w.crossing.map (·.early)).getD false, overload := w.overload, slewing := w.slewing }

/-- The result of a period disturbed while its window is open (R153). -/
def abortedResult (z : Zone) (d : Nat) (w : Window) : ProbeResult :=
  { zone := z, status := .aborted, raw := none, emission := d, peak := w.peak, early := false,
    overload := w.overload, slewing := w.slewing }

/-- An open window closes normally and appends its result (R153). -/
def closeWindow (s : State) : State :=
  match s.probe.state.run with
  | some (.opened e d (some w) b) =>
    appendResult (closedResult s.probeZone d w)
      (s.updProbe fun x => { x with state := x.state.setRun (.opened e d none b) })
  | _ => s

/-- An open window is cut short by a disturbance and appends an ABORTED result (R155, R156). -/
def abortWindow (s : State) : State :=
  match s.probe.state.run with
  | some (.opened e d (some w) b) =>
    appendResult (abortedResult s.probeZone d w)
      (s.updProbe fun x => { x with state := x.state.setRun (.opened e d none b) })
  | _ => s

/-! ### Starting, moving, cancelling (R148, R149, R154 to R156) -/

/-- A move to IDLE that drops the S8 entry in a zone (R147). -/
def probeIdle (z : Zone) (s : State) : State :=
  probeDrop z (s.updProbe fun x => { x with state := .idle })

/-- PROBE_CANCELLED to port C. -/
def raiseCancelled (z : Zone) (r : CancelReason) (s : State) : State :=
  s.raise .C (.probeCancelled z r)

/-- The run is cancelled: an ABORTED result where a window is open, IDLE, the entry dropped and
PROBE_CANCELLED raised (R156). -/
def probeCancel (r : CancelReason) (s : State) : State :=
  let z := s.probeZone
  raiseCancelled z r (probeIdle z (abortWindow s))

/-- The checks of steps 2, 4 and 5 of R148 in a zone: the reason of the first that fails. -/
def startFailure (s : State) (z : Zone) : Option CancelReason :=
  if s.powerOf z = .disabled then some .zoneDisabled
  else if 6 ≤ s.winnerLevel z then some .evac
  else if raiseOutcome s z probeEntry = .routeFull then some .routeFull
  else none

/-- The S8 entry raised in a zone, WAITING_ZONE entered, and R150 applied at once (R148). -/
def probeBegin (z : Zone) (s : State) : State :=
  let s := s.updProbe fun x => { x with state := .waitingZone }
  probeTest (setRoutes z (routePut probeEntry (s.zone z).route.entries) s)

/-- A start made away from PROBE_RUN: at an edge, or in the new zone of a move (R149, R154). -/
def probeStart (z : Zone) (s : State) : State :=
  match startFailure s z with
  | none => probeBegin z s
  | some r => raiseCancelled z r (s.updProbe fun x => { x with state := .idle })

/-- The current copy takes the whole pending copy (R145). -/
def copySettings (s : State) : State := s.updProbe fun x => { x with current := x.pending }

/-- The run moves from one zone to another (R154). -/
def probeMove (old new : Zone) (s : State) : State := probeStart new (probeDrop old s)

/-- The S8 entry has lost the zone to an entry at level 5 or less (R155). -/
def probeAbort (s : State) : State :=
  let old := s.probeZone
  let s := copySettings (abortWindow s)
  match s.probe.state with
  | .running _ =>
    if s.probeZone = old then probeTest (s.updProbe fun x => { x with state := .waitingZone })
    else probeMove old s.probeZone (s.updProbe fun x => { x with state := .waitingZone })
  | .stopping _ => probeIdle old s
  | .idle | .armed _ | .waitingZone => s

/-- The probe's answer to a winner notice (R150, R155, R156). -/
def probeWinner (z : Zone) (before after : Option RouteEntry) (s : State) : State :=
  if z = s.probeZone ∧ before ≠ after then
    match s.probe.state with
    | .idle | .armed _ => s
    | .waitingZone =>
      if after.any (fun e => decide (6 ≤ e.level)) then probeCancel .evac s else probeTest s
    | .running _ | .stopping _ =>
      if after.any (fun e => decide (6 ≤ e.level)) then probeCancel .evac s
      else if before.any RouteEntry.isProbe ∧ after.any (fun e => !e.isProbe) then probeAbort s
      else s
  else s

/-- The probe's answer to a removal of the S8 entry it did not ask for (R119, R156). -/
def probeRemoved (z : Zone) (r : CancelReason) (s : State) : State :=
  if z = s.probeZone then
    match s.probe.state with
    | .idle | .armed _ => s
    | .waitingZone | .running _ | .stopping _ => probeCancel r s
  else s

/-! ### Events (R149, R151, R153, R154) -/

/-- TRIG_EDGE (R149). -/
def execTrigEdge (edge : Edge) (s : State) : Answer :=
  .next (match s.probe.state with
    | .armed e =>
      if edge = e then
        let s := copySettings s
        probeStart s.probeZone s
      else s
    | .idle | .waitingZone | .running _ | .stopping _ => s)

/-- A period opens: the delay at emission recorded and the capture window opened (R151). -/
def periodOpen (s : State) : State :=
  match s.probe.state.run with
  | some (.toOpen 0) =>
    s.updProbe fun x =>
      { x with state :=
          x.state.setRun (.opened 0 (s.zone s.probeZone).line.dCur (some Window.initial) false) }
  | _ => s

/-- PERIOD_OPEN (R151). -/
def execPeriodOpen (s : State) : Answer := .next (periodOpen s)

/-- The frame marks that have passed since a period opened: those elapsed, with the one that ends it
(R147). -/
def marksPassed (elapsed : Nat) (ending : Bool) : Nat := if ending then elapsed + 1 else elapsed

/-- The window is due to close at the frame mark whose FRAME_MARK has been taken (R153, R154). -/
def windowDue (s : State) : Bool :=
  match s.probe.state.run with
  | some (.opened e _ (some _) b) => decide (s.probe.current.window ≤ marksPassed e b)
  | _ => false

/-- The window closes at the coming frame mark. -/
def windowDueNext (s : State) : Bool :=
  match s.probe.state.run with
  | some (.opened e _ (some _) _) => s.frameOver && decide (s.probe.current.window ≤ e + 1)
  | _ => false

/-- WINDOW_CLOSE (R153): after its FRAME_MARK, or before it (R155, log entry 5). -/
def execWindowClose (s : State) : Answer :=
  .next (if windowDue s then closeWindow s
    else if windowDueNext s then closeWindow { s with atMark := true }
    else s)

/-- A period ends: an open window closes first, the settings are copied, and the probe goes on by its
state and the current mode. `marks` counts the frame marks until a next period opens (R154). -/
def periodEnd (marks : Nat) (s : State) : State :=
  let old := s.probeZone
  let s := copySettings (closeWindow s)
  match s.probe.state with
  | .running _ =>
    if s.probe.current.repeating then
      if s.probeZone = old then
        s.updProbe fun x => { x with state := .running (.toOpen marks) }
      else probeMove old s.probeZone s
    else probeIdle old s
  | .stopping _ => probeIdle old s
  | .idle | .armed _ | .waitingZone => s

/-- The period is due to end at the frame mark whose FRAME_MARK has been taken (R154). -/
def periodDue (s : State) : Bool :=
  match s.probe.state.run with
  | some (.opened _ _ _ b) => b
  | _ => false

/-- The period ends at the coming frame mark. -/
def periodDueNext (s : State) : Bool :=
  match s.probe.state.run with
  | some (.opened e _ _ _) => s.frameOver && decide (s.probe.current.period ≤ e + 1)
  | _ => false

/-- PERIOD_END (R154): after its FRAME_MARK, or before it (log entry 5). -/
def execPeriodEnd (s : State) : Answer :=
  .next (if periodDue s then periodEnd 0 s
    else if periodDueNext s then periodEnd 1 { s with atMark := true }
    else s)

/-- The probe's work at a frame mark within the window: SLEWING is set where D_cur differs from the delay
at emission (R151). -/
def probeWork (s : State) : State :=
  match s.probe.state.run with
  | some (.opened e d (some w) b) =>
    if 1 ≤ marksPassed e b ∧ marksPassed e b < s.probe.current.window ∧ (s.zone s.probeZone).line.dCur ≠ d then
      s.updProbe fun x =>
        { x with state := x.state.setRun (.opened e d (some { w with slewing := true }) b) }
    else s
  | _ => s

/-- A frame mark counted in the run record; the one that ends the period is no frame mark elapsed in it (R147,
R150, R154). -/
def Run.tick (period : Nat) : Run → Run
  | .toOpen n => .toOpen (n - 1)
  | .opened e d w b => if e + 1 < period then .opened (e + 1) d w b else .opened e d w true

/-- A frame mark counted by the probe. -/
def ProbeUnit.tick (x : ProbeUnit) : ProbeUnit :=
  match x.state.run with
  | some r => { x with state := x.state.setRun (r.tick x.current.period) }
  | none => x

/-! ### Commands (R146, R148, R157) -/

/-- The period a PROBE_SETUP asks for, limited (R146). -/
def limitedPeriod (a : ProbeArg) : Nat := limitNat 10 2000 a.period

/-- The numeric fields of PROBE_SETUP; the window against the period as limited (R146). -/
def probeFields (a : ProbeArg) : List Numeric :=
  [⟨1, 10, 2000, a.period⟩, ⟨2, 1, 48, a.width⟩, ⟨3, -160, 0, a.gain⟩,
    ⟨4, 1, 8388607, a.threshold⟩, ⟨5, 1, limitedPeriod a, a.window⟩]

/-- The settings of a PROBE_SETUP, limited (R146). -/
def probeSettingsOf (a : ProbeArg) (zone : Zone) (source : Fin 8) (repeating : Bool) : ProbeSettings :=
  { zone := zone, period := limitedPeriod a, width := limitNat 1 48 a.width,
    gain := limit (-160) 0 a.gain, threshold := limitNat 1 8388607 a.threshold,
    window := limitNat 1 (limitedPeriod a) a.window, source := source, repeating := repeating }

/-- OK, or OK_CLAMPED where a field was limited (R189). -/
def okResult (limited : List Nat) : Result := if limited = [] then .ok else .okClamped

/-- PROBE_SETUP (R146). -/
def takeProbeSetup (p : Port) (values : ProbeArg) (s : State) : Answer :=
  .next (guarded s p 0x1A (decide (p = .C)) fun s =>
    checked s p 0x1A (zoneOf values.zone) fun z =>
      checked s p 0x1A (toFin 8 values.source) fun src =>
        checked s p 0x1A (choiceBool values.mode) fun oneShot =>
          let limited := limitedFields (probeFields values)
          let s := s.updProbe fun x => { x with pending := probeSettingsOf values z src (!oneShot) }
          s.answer p 0x1A (okResult limited)
            (bProbeSettings s.probe.pending ++ bProbeSettings s.probe.current ++ bLimited limited))

/-- The answer that names why a run could not start (R148). -/
def CancelReason.result : CancelReason → Result
  | .zoneDisabled => .zoneDisabled
  | .evac => .evacActive
  | .routeFull => .routeFull
  | .evicted => .routeFull

/-- The edge a choice names (R148). -/
def edgeOf (c : Choice) : Option Edge := (choiceBool c).map fun b => if b then .rising else .falling

/-- The settings are copied at a start without trigger: at a taken raise, and at one refused ROUTE_FULL
(R148). -/
def runCopies : Option CancelReason → Bool
  | none => true
  | some .routeFull => true
  | some _ => false

/-- PROBE_RUN (R148). -/
def takeProbeRun (p : Port) (trigger : Option Choice) (s : State) : Answer :=
  .next (guarded s p 0x1B (decide (p = .C)) fun s =>
    checked s p 0x1B (checkOption edgeOf trigger) fun edge =>
      let z := s.probe.pending.zone
      if s.probe.state ≠ .idle then s.answer p 0x1B .probeBusy []
      else if s.powerOf z = .disabled then s.answer p 0x1B .zoneDisabled []
      else match edge with
        | some e => (s.updProbe fun x => { x with state := .armed e }).answer p 0x1B .ok []
        | none =>
          let failure := startFailure s z
          let s := if runCopies failure then copySettings s else s
          match failure with
          | some r => s.answer p 0x1B r.result []
          | none => (probeBegin z s).answer p 0x1B .ok [])

/-- What PROBE_STOP does by the probe's state (R157). -/
def probeStopped (s : State) : State :=
  match s.probe.state with
  | .idle | .stopping _ => s
  | .armed _ => s.updProbe fun x => { x with state := .idle }
  | .waitingZone => probeIdle s.probeZone s
  | .running r => s.updProbe fun x => { x with state := .stopping r }

/-- PROBE_STOP (R157). -/
def takeProbeStop (p : Port) (s : State) : Answer :=
  .next (guarded s p 0x1C (decide (p = .C)) fun s =>
    (probeStopped s).answer p 0x1C .ok (bNum1 s.probe.state.place))

/-- PROBE_CLEAR (R157). -/
def takeProbeClear (p : Port) (s : State) : Answer :=
  .next (guarded s p 0x1D (decide (p = .C)) fun s =>
    (s.updProbe fun x => { x with results := [] }).answer p 0x1D .ok (bNat s.probe.results.length))

/-! ### Reading (R158) -/

/-- The run record as READ_PROBE reports it (R158). With no window open the peak is sent as 0 and the crossing as
not found, and before a period opens the frame marks elapsed as 0 (DESIGN CHOICE, log entry 15: R147 keeps the
record of an open window alone). -/
def bRun (r : Run) : List Byte :=
  match r with
  | .toOpen _ => bNat 0 ++ bYes false ++ bNat 0 ++ bYes false
  | .opened e _ w _ =>
    bNat e ++ bYes w.isSome ++ bNat ((w.map (·.peak)).getD 0) ++ bYes (w.any fun w => w.crossing.isSome)

/-- The trigger edge of ARMED (R158). -/
def ProbeState.edge : ProbeState → Option Edge
  | .armed e => some e
  | .idle | .waitingZone | .running _ | .stopping _ => none

/-- READ_PROBE (R158). -/
def takeReadProbe (p : Port) (s : State) : Answer :=
  .next (guarded s p 0x1F true fun s =>
    s.answer p 0x1F .ok
      (bNum1 s.probe.state.place ++ bytesOption (fun e => bNum1 (Edge.place e)) s.probe.state.edge ++
        bProbeSettings s.probe.current ++ bProbeSettings s.probe.pending ++
        bytesOption bRun s.probe.state.run ++ bytesList bProbeResult s.probe.results))

/-! ### Adopting (R159) -/

/-- The acoustic arrivals of the FOUND results of a zone, newest first (R159). -/
def foundOf (l : List ProbeResult) (z : Zone) : List Int :=
  (l.reverse.filter fun r => decide (r.zone = z ∧ r.status = .found)).filterMap ProbeResult.acoustic

/-- A number put in its place in ascending order. -/
def orderInsert (x : Int) : List Int → List Int
  | [] => [x]
  | y :: rest => if x ≤ y then x :: y :: rest else y :: orderInsert x rest

/-- The numbers in ascending order. -/
def ascending (l : List Int) : List Int := l.foldr orderInsert []

/-- The middle value in ascending order, the lower of the two for an even count (R159). -/
def median (l : List Int) : Int := ((ascending l)[(l.length - 1) / 2]?).getD 0

/-- The path length of a difference at a speed of sound, before its limit (R159). -/
def adoptedLength (delta c : Int) : Int := roundUp (delta * c) Config.finePerSecond

/-- The GEOMETRY values PROBE_ADOPT builds from a shadow record and a path length, limited to its range (R5,
R159). -/
def adoptedGeometry (r : ZoneRecord) (l : Int) : Geometry :=
  { pathLength := limit 0 400000 l, precedence := r.precedence, trim := r.trim, weights := r.weights,
    reference := r.reference }

/-- PROBE_ADOPT (R159). -/
def takeProbeAdopt (p : Port) (zone : Nat) (s : State) : Answer :=
  .next (guarded s p 0x1E (decide (p = .C)) fun s =>
    checked s p 0x1E (zoneOf zone) fun z =>
      match (s.shadow z).reference with
      | none => s.answer p 0x1E .noReference []
      | some r =>
        let az := foundOf s.probe.results z
        let ar := foundOf s.probe.results r
        if az.length < 3 ∨ ar.length < 3 then s.answer p 0x1E .notEnough []
        else
          let az := az.take 5
          let ar := ar.take 5
          let delta := median ar - median az
          let c := (s.zone z).target.c
          let l := adoptedLength delta c
          let extra := bZone r ++ bNat az.length ++ bNat ar.length ++ bInt (median az) ++
            bInt (median ar) ++ bInt delta ++ bInt c ++ bInt (min l 400000)
          if delta < 0 then s.answer p 0x1E .negativePath extra
          else
            acceptChange p 0x1E (.one z) (.geometry (adoptedGeometry (s.shadow z) l))
              (if 400000 < l then [1] else []) extra s)

end Sys2Proof.Machine
end

