-- ==== Sys2Proof/Machine/Routes.lean ====
section
/-! DEFINITION. Chapters 7 and 8, the rows: ROUTE_RAISE, ROUTE_DROP, ROUTE_DROP_ALL and READ_ROUTES (R113 to
R117, R128), FADE_END (R122), ENABLE_ZONE and DISABLE_ZONE (R131, R132), WAKE_TIME_ELAPSED (R138) and
DRAIN_TIME_ELAPSED (R139). -/

namespace Sys2Proof.Machine

/-- A zone's route set becomes the entries given, and the route unit, the zone power unit and the probe
answer (R120). -/
def changeRoutes (z : Zone) (entries : List RouteEntry) (s : State) : State :=
  let before := s.winner z
  let s := setRoutes z entries s
  probeWinner z before (s.winner z) s

/-! ### Raising (R113 to R115) -/

/-- The ceiling of a port (R111). -/
def ceiling : Port → Nat
  | .P => 4
  | .V => 7
  | .C => 5

/-- A source S0 to S7, as a port command may name it (R113, R116). -/
def portSource (n : Nat) : Option Source := (toFin 8 n).map fun x => Fin.castLE (by omega) x

/-- A refusal of a zone in a route command: ZONE_DISABLED at position 0, ROUTE_FULL at position 1 (R113). -/
abbrev RouteRefusal := Zone × Bool

/-- What a route command has done so far: the zones taken, the entries evicted or removed, the refusals. -/
structure RouteReport where
  taken : Nat
  moved : Nat
  refused : List RouteRefusal
  deriving DecidableEq, Repr

/-- Nothing done. -/
def RouteReport.empty : RouteReport := { taken := 0, moved := 0, refused := [] }

/-- A raise that evicts: the set changed, ROUTE_EVICTED raised, and the probe told of its own entry before
the winner notice (R115, R119, log entry 15). -/
def raiseEvicting (z : Zone) (e x : RouteEntry) (s : State) : State :=
  let before := s.winner z
  let s := setRoutes z (raisedSet (s.zone z).route.entries e (.evicted x)) s
  let s := s.raise x.port (.routeEvicted z x.source x.level e.source e.level)
  let s := if x.isProbe then probeRemoved z .evicted s else s
  probeWinner z before (s.winner z) s

/-- A raise in one zone (R114, R115). -/
def raiseIn (e : RouteEntry) (z : Zone) (s : State) (r : RouteReport) : State × RouteReport :=
  match raiseOutcome s z e with
  | .taken =>
    (changeRoutes z (routePut e (s.zone z).route.entries) s, { r with taken := r.taken + 1 })
  | .evicted x => (raiseEvicting z e x s, { r with taken := r.taken + 1, moved := r.moved + 1 })
  | .zoneDisabled => (s, { r with refused := r.refused ++ [(z, false)] })
  | .routeFull => (s, { r with refused := r.refused ++ [(z, true)] })

/-- A route command's work over its zones, in zone order. -/
def overZones (f : Zone → State → RouteReport → State × RouteReport) (zs : List Zone) (s : State) :
    State × RouteReport :=
  zs.foldl (fun x z => f z x.1 x.2) (s, .empty)

/-- The counts and the refusal list of a route command (R113). -/
def bReport (r : RouteReport) : List Byte :=
  bNat r.taken ++ bNat r.moved ++
    bytesList (fun x => bZone x.1 ++ bNum1 (if x.2 then 1 else 0)) r.refused

/-- ROUTE_RAISE (R113 to R115). -/
def takeRouteRaise (p : Port) (zones : List Nat) (source level : Nat) (s : State) : Answer :=
  .next (guarded s p 0x13 true fun s =>
    checked s p 0x13 (zoneSet zones) fun zs =>
      checked s p 0x13 (portSource source) fun src =>
        if level = 0 then s.answer p 0x13 .badValue []
        else
          let applied := min level (ceiling p)
          let (s, r) := overZones (raiseIn { port := p, source := src, level := applied }) zs s
          s.answer p 0x13 (if applied = level then .ok else .okClamped)
            (bSource src ++ bNum1 applied ++ bReport r))

/-! ### Dropping (R116, R117) -/

/-- A drop in one zone (R116). -/
def dropIn (p : Port) (src : Source) (z : Zone) (s : State) (r : RouteReport) : State × RouteReport :=
  if s.powerOf z = .disabled then (s, { r with refused := r.refused ++ [(z, false)] })
  else
    let l := (s.zone z).route.entries
    let r := { r with taken := r.taken + 1 }
    if l.any (RouteEntry.hasKey p src) then
      (changeRoutes z (routeRemove p src l) s, { r with moved := r.moved + 1 })
    else (s, r)

/-- ROUTE_DROP (R116). -/
def takeRouteDrop (p : Port) (zones : List Nat) (source : Nat) (s : State) : Answer :=
  .next (guarded s p 0x14 true fun s =>
    checked s p 0x14 (zoneSet zones) fun zs =>
      checked s p 0x14 (portSource source) fun src =>
        let (s, r) := overZones (dropIn p src) zs s
        s.answer p 0x14 .ok (bReport r))

/-- An entry ROUTE_DROP_ALL of a port removes: its own, of a source from S0 to S7 (R117). -/
def RouteEntry.droppedBy (p : Port) (e : RouteEntry) : Bool :=
  decide (e.port = p ∧ e.source.val < 8)

/-- Every such entry of one zone removed (R117). -/
def dropAllIn (p : Port) (z : Zone) (s : State) (r : RouteReport) : State × RouteReport :=
  let l := (s.zone z).route.entries
  let n := (l.filter (RouteEntry.droppedBy p)).length
  if n = 0 then (s, r)
  else
    (changeRoutes z (l.filter fun e => !e.droppedBy p) s,
      { r with taken := r.taken + 1, moved := r.moved + n })

/-- ROUTE_DROP_ALL (R117). -/
def takeRouteDropAll (p : Port) (s : State) : Answer :=
  .next (guarded s p 0x15 true fun s =>
    let (s, r) := overZones (dropAllIn p) allZones s
    s.answer p 0x15 .ok (bNat r.taken ++ bNat r.moved))

/-! ### The end of a fade (R122) -/

/-- A zone's fade ends: it rests on the source the fade headed for, and the fade end notice is answered
(R122, R134, R150). -/
def fadeFinish (z : Zone) (s : State) : State :=
  let s := s.updRoute z fun r => { r with fade := r.fade.finish }
  probeTest (fadeEndPower z s)

/-- FADE_END (R122); a fade that has not been mixed with its last p is left alone. A fade mixed with its last p in
the last sample period of a frame ends at the coming frame mark (R139, R150, log entry 5). -/
def execFadeEnd (z : Zone) (s : State) : Answer :=
  .next (if (s.zone z).route.fade.done then
    fadeFinish z (if s.frameOver then { s with atMark := true } else s)
  else s)

/-! ### Waking and draining (R138, R139) -/

/-- The wake time of a zone has elapsed at the frame mark whose FRAME_MARK has been taken. -/
def wakeDue (z : Zone) (s : State) : Bool := decide (s.powerOf z = .waking 0)

/-- The wake time of a zone elapses at the coming frame mark. -/
def wakeDueNext (z : Zone) (s : State) : Bool :=
  s.frameOver && decide (s.powerOf z = .waking 1) && !(s.zone z).power.fresh

/-- A WAKING zone enters LIVE (R138), and the probe answers the power notice (R150). -/
def wakeFinish (z : Zone) (s : State) : State := probeTest (setPower z .live s)

/-- WAKE_TIME_ELAPSED (R138): after its FRAME_MARK, or before it (R71, R105, log entry 5). -/
def execWakeTimeElapsed (z : Zone) (s : State) : Answer :=
  .next (if wakeDue z s then wakeFinish z s
    else if wakeDueNext z s then wakeFinish z { s with atMark := true }
    else s)

/-- The drain frames left of a DRAINING zone (R130). -/
def PowerState.drainLeft : PowerState → Option Nat
  | .draining _ n => some n
  | .disabled | .parked | .wakeWait | .waking _ | .live => none

/-- The drain time of a zone has elapsed at the frame mark whose FRAME_MARK has been taken. -/
def drainDue (z : Zone) (s : State) : Bool := decide ((s.powerOf z).drainLeft = some 0)

/-- The drain time of a zone elapses at the coming frame mark. -/
def drainDueNext (z : Zone) (s : State) : Bool :=
  s.frameOver && decide ((s.powerOf z).drainLeft = some 1) && !(s.zone z).power.fresh

/-- A DRAINING zone enters PARKED (R139), and the probe answers the power notice (R150). -/
def drainFinish (z : Zone) (s : State) : State := probeTest (setPower z .parked s)

/-- DRAIN_TIME_ELAPSED (R139): after its FRAME_MARK, or before it (R140, log entry 5). -/
def execDrainTimeElapsed (z : Zone) (s : State) : Answer :=
  .next (if drainDue z s then drainFinish z s
    else if drainDueNext z s then drainFinish z { s with atMark := true }
    else s)

/-! ### Enabling and disabling (R12, R131, R132) -/

/-- A direct write of a record: both copies together (R12). -/
def writeBoth (z : Zone) (f : ZoneRecord → ZoneRecord) (s : State) : State :=
  s.updEntry z fun e => { e with active := f e.active, shadow := f e.shadow }

/-- A direct write with the change notice of its group (R12). -/
def directWrite (z : Zone) (g : FieldGroup) (f : ZoneRecord → ZoneRecord) (s : State) : State :=
  changeNotice z [g] (s.active z) (writeBoth z f s)

/-- The effects of an ENABLE_ZONE that passes (R131). -/
def enableZone (z : Zone) (s : State) : State :=
  let s := directWrite z .enable (fun r => { r with enabled := true }) s
  let s := clearLine z s
  let s := s.updLine z fun l => { l with dCur := (s.zone z).target.tgt }
  let s := eqSetUp z s
  let s := s.updRoute z fun r => { r with entries := [], fade := .atRest none }
  setPower z .parked s

/-- ENABLE_ZONE (R131). -/
def takeEnableZone (p : Port) (zone : Nat) (s : State) : Answer :=
  .next (guarded s p 0x17 (decide (p = .C)) fun s =>
    checked s p 0x17 (zoneOf zone) fun z =>
      let report := fun s : State =>
        bZone z ++ bAllocation (s.active z).allocation ++ bNat (s.zone z).target.tgt
      if s.powerOf z ≠ .disabled then s.answer p 0x17 .ok (report s)
      else if (s.active z).allocation = none then s.answer p 0x17 .noPages []
      else
        let s := enableZone z s
        s.answer p 0x17 .ok (report s))

/-- The entries of a port, as ROUTES_LOST lists them (R132). -/
def lostBy (p : Port) (l : List RouteEntry) : List (Source × Nat) :=
  (l.filter fun e => decide (e.port = p)).map fun e => (e.source, e.level)

/-- ROUTES_LOST raised to a port that had entries removed (R132). -/
def raiseLost (z : Zone) (l : List RouteEntry) (p : Port) (s : State) : State :=
  if lostBy p l = [] then s else s.raise p (.routesLost z (lostBy p l))

/-- The effects of a DISABLE_ZONE that passes (R132, R65, R126). -/
def disableZone (z : Zone) (s : State) : State :=
  let removed := (s.zone z).route.entries
  let s := s.updRoute z fun r => { r with entries := [], fade := .atRest none }
  let s := if removed.any RouteEntry.isProbe then probeRemoved z .zoneDisabled s else s
  let s := setPower z .disabled s
  let s := directWrite z .enable (fun r => { r with enabled := false }) s
  let s := s.updLine z fun _ => { dCur := 0, writePos := 0 }
  raiseLost z removed .C (raiseLost z removed .P s)

/-- DISABLE_ZONE (R132). -/
def takeDisableZone (p : Port) (zone : Nat) (s : State) : Answer :=
  .next (guarded s p 0x18 (decide (p = .C)) fun s =>
    checked s p 0x18 (zoneOf zone) fun z =>
      let report := bZone z ++ bNum1 (s.powerOf z).place ++ bNat (s.zone z).route.entries.length
      if s.powerOf z = .disabled then s.answer p 0x18 .ok report
      else if s.holdsV z then s.answer p 0x18 .evacActive []
      else (disableZone z s).answer p 0x18 .ok report)

/-! ### Reading (R128) -/

/-- What READ_ROUTES reports of one zone (R128). -/
def bRoutes (s : State) (z : Zone) : List Byte :=
  let r := (s.zone z).route
  bytesList bRouteEntry r.entries ++
    (match r.fade with
      | .atRest x => bNum1 0 ++ (1#8 :: bHeardSource x) ++ [0#8]
      | .fading out inc q n up =>
        bNum1 1 ++ [0#8] ++
          (1#8 :: (bHeardSource out ++ bHeardSource inc ++ bNat q ++ bNat n ++
            bNum1 (if up then 0 else 1)))) ++
    bNum1 r.named.place

/-- READ_ROUTES (R128). -/
def takeReadRoutes (p : Port) (zones : List Nat) (s : State) : Answer :=
  .next (guarded s p 0x16 true fun s =>
    checked s p 0x16 (zoneSet zones) fun zs =>
      s.answer p 0x16 .ok (bytesList (bRoutes s) zs))

end Sys2Proof.Machine
end

