-- ==== Sys2Proof/Machine/Lines.lean ====
section
/-! DEFINITION. Chapter 4: the delay line unit's commands and steps. ALLOCATE (R61), READ_DELAY_MAP (R73),
the slew step (R68), and the write and read of a sample period (R63, R66). -/

namespace Sys2Proof.Machine

/-! ### The slew step (R68) -/

/-- D_cur moved toward D_tgt by at most S (R68). -/
def slewToward (cur tgt slew : Nat) : Nat :=
  if cur < tgt then cur + min slew (tgt - cur) else cur - min slew (cur - tgt)

/-- The step of a zone by its power state (R68). -/
def slewStep (p : PowerState) (cur tgt slew : Nat) : Nat :=
  match p with
  | .live | .draining _ _ => slewToward cur tgt slew
  | .parked | .wakeWait | .waking _ => tgt
  | .disabled => 0

/-- The delay line unit's step for one zone at a frame mark (R68, R69). -/
def slewZone (z : Zone) (s : State) : State :=
  s.updLine z fun l =>
    { l with dCur := slewStep (s.powerOf z) l.dCur (s.zone z).target.tgt (s.active z).slew }

/-- The delay line unit's work at a frame mark (R68). -/
def slewWork (s : State) : State := s.eachZone slewZone

/-! ### One sample period of a line (R63, R66) -/

/-- Line position (w − k) mod N (R63). -/
def positionBack (w k n : Nat) : Nat := (w + (n - k % n)) % n

/-- The write position after one sample (R63). -/
def nextPos (w n : Nat) : Nat := if w + 1 < n then w + 1 else 0

/-- The interpolation of a read, f of 64 (R66). -/
def interpolate (near far : Sample) (f : Nat) : Sample :=
  BitVec.ofInt 24 (near.toInt + roundUp ((far.toInt - near.toInt) * f) Config.finePerSample)

/-- The read of a line at a delay, w being the position the present sample has been written at (R66). -/
def lineRead (m : List MemCell) (a : Allocation) (w dCur : Nat) : Sample :=
  let n := a.count * Config.pageSamples
  let g := dCur / Config.finePerSample
  interpolate (memRead m (lineAddress a (positionBack w g n)))
    (memRead m (lineAddress a (positionBack w (g + 1) n))) (dCur % Config.finePerSample)

/-! ### ALLOCATE (R61) -/

/-- The structural check of an allocation that is present (R61, step 3). -/
def allocationOf (a : AllocArg) : Option Allocation :=
  if a.base ≤ 511 ∧ 1 ≤ a.count ∧ a.count ≤ 128 ∧ a.base + a.count ≤ 512 then
    some { base := a.base, count := a.count }
  else none

/-- The lowest-numbered other zone whose range shares a page with the one asked for, with its range (R61,
step 5). -/
def overlapped (s : State) (z : Zone) (a : Allocation) : Option (Zone × Allocation) :=
  (allZones.filter fun y => decide (y ≠ z)).findSome? fun y =>
    match (s.active y).allocation with
    | some b => if a.overlaps b then some (y, b) else none
    | none => none

/-- ALLOCATE (R61, R62). -/
def takeAllocate (p : Port) (zone : Nat) (allocation : Option AllocArg) (s : State) : Answer :=
  .next (guarded s p 0x0B (decide (p = .C)) fun s =>
    checked s p 0x0B (zoneOf zone) fun z =>
      checked s p 0x0B (checkOption allocationOf allocation) fun a =>
        if s.powerOf z ≠ .disabled then s.answer p 0x0B .notPermitted []
        else match a.bind (overlapped s z) with
          | some (y, b) => s.answer p 0x0B .allocOverlap (bZone y ++ bytes2 b.base ++ bytes2 b.count)
          | none =>
            (directWrite z .allocation (fun r => { r with allocation := a }) s).answer p 0x0B .ok
              (bZone z ++ bAllocation a ++ bNat (capacity a)))

/-! ### READ_DELAY_MAP (R73) -/

/-- Frames to target as READ_DELAY_MAP reports them (R68, R73). -/
def framesToTarget (p : PowerState) (cur tgt slew : Nat) : Nat :=
  match p with
  | .live | .draining _ _ => ceilDiv ((tgt : Int) - cur).natAbs slew
  | .parked | .wakeWait | .waking _ => if cur = tgt then 0 else 1
  | .disabled => 0

/-- A zone is slewing (R68). -/
def slewing (p : PowerState) (cur tgt : Nat) : Bool := p.heard && decide (cur ≠ tgt)

/-- A page lies in no zone's range (R60). -/
def State.pageFree (s : State) (n : Nat) : Bool :=
  allZones.all fun z =>
    match (s.active z).allocation with
    | some a => !decide (a.base ≤ n ∧ n < a.base + a.count)
    | none => true

/-- The longest spans of consecutive numbers in an ascending list, each its first number and its length
(R73). -/
def runsOf : List Nat → List (Nat × Nat)
  | [] => []
  | n :: rest =>
    match runsOf rest with
    | (first, k) :: more => if first = n + 1 then (n, k + 1) :: more else (n, 1) :: (first, k) :: more
    | [] => [(n, 1)]

/-- The free pages in ascending order (R60, R73). -/
def State.freePages (s : State) : List Nat := (List.range Config.pages).filter s.pageFree

/-- What READ_DELAY_MAP reports of one zone (R73). -/
def bLine (s : State) (z : Zone) : List Byte :=
  let p := s.powerOf z
  let cur := (s.zone z).line.dCur
  let tgt := (s.zone z).target.tgt
  bAllocation (s.active z).allocation ++ bNat (s.zone z).target.cap ++ bNat cur ++ bNat tgt ++
    bYes (slewing p cur tgt) ++ bNat (framesToTarget p cur tgt (s.active z).slew)

/-- READ_DELAY_MAP (R73). -/
def takeReadDelayMap (p : Port) (s : State) : Answer :=
  .next (guarded s p 0x0C true fun s =>
    s.answer p 0x0C .ok
      (allZones.flatMap (bLine s) ++
        bytesList (fun r => bytes2 r.1 ++ bytes2 r.2) (runsOf s.freePages) ++
        bNat s.freePages.length))

end Sys2Proof.Machine
end

