-- ==== Sys2Proof/Machine/Sensors.lean ====
section
/-! DEFINITION. Chapter 5: the temperature unit. Poll rounds (R81 to R83), outcomes (R78, R84, R85), STALE
(R86), and the commands of port C with READ_SENSORS (R87 to R90). -/

namespace Sys2Proof.Machine

/-! ### Records -/

/-- The sensor record of a slot. -/
def State.sensor (s : State) (n : Fin 8) : SensorRecord := s.temp.sensors[n]

/-- The sensor record of a slot, changed. -/
def State.updSensor (s : State) (n : Fin 8) (f : SensorRecord → SensorRecord) : State :=
  { s with temp := { s.temp with sensors := s.temp.sensors.set n (f s.temp.sensors[n]) } }

/-- The enabled and address fields of a slot (R79, R191). -/
def State.sensorFields (s : State) (n : Fin 8) : SensorFields := s.settings.sensors[n]

/-- MANUAL. -/
def SensorStatus.isManual : SensorStatus → Bool
  | .manual _ => true
  | .off | .seeking | .valid | .stale | .fault => false

/-- VALID or MANUAL, the usable states (R79). -/
def SensorStatus.isUsable : SensorStatus → Bool
  | .valid | .manual _ => true
  | .off | .seeking | .stale | .fault => false

/-! ### Rounds (R81 to R83) -/

/-- A slot has a place in the list of a round that starts (R81). -/
def inRound (s : State) (n : Fin 8) : Bool :=
  (s.sensorFields n).enabled && !(s.sensor n).status.isManual

/-- A slot is read at its turn: it has not become OFF or MANUAL, and its enabled field is yes (R81). -/
def readAtTurn (s : State) (n : Fin 8) : Bool :=
  inRound s n && decide ((s.sensor n).status ≠ .off)

/-- The round state changed. -/
def State.setRound (s : State) (r : Option Round) : State := { s with temp := { s.temp with round := r } }

/-- The round goes on with the first slot of a list that is read at its turn, at the address its record holds
then, or ends (R81). -/
def roundOn (spikeLimit : Nat) (slots : List (Fin 8)) (s : State) : State :=
  match slots.dropWhile fun n => !readAtTurn s n with
  | [] => s.setRound none
  | n :: rest =>
    s.setRound (some
      { slot := n, address := (s.sensorFields n).address, rest := rest, spikeLimit := spikeLimit,
        void := false })

/-- A poll round starts (R81). -/
def startRound (s : State) : State := roundOn s.settings.spikeLimit (allSlots.filter (inRound s)) s

/-- The poll timer loaded with the poll interval in force (R81). -/
def loadTimer (s : State) : State :=
  { s with temp :=
      { s.temp with
        pollTimer := some (s.settings.pollInterval * Config.framesPerSecond), pollFresh := s.atMark } }

/-- The answer to an expiry of the poll timer (R81). -/
def pollExpiry (s : State) : State :=
  let s := loadTimer s
  if s.temp.round.isNone then startRound s else s

/-- The poll timer has reached zero at the frame mark whose FRAME_MARK has been taken. -/
def pollDue (s : State) : Bool := decide (s.temp.pollTimer = some 0)

/-- The poll timer reaches zero at the coming frame mark. -/
def pollDueNext (s : State) : Bool :=
  s.frameOver && decide (s.temp.pollTimer = some 1) && !s.temp.pollFresh

/-- POLL_TIMER_EXPIRY (R81): after its FRAME_MARK, or before it (R91, log entry 5). -/
def execPollTimerExpiry (s : State) : Answer :=
  .next (if pollDue s then pollExpiry s
    else if pollDueNext s then pollExpiry { s with atMark := true }
    else s)

/-! ### Outcomes (R78, R84, R85) -/

/-- The outcome of a transaction (R78). -/
inductive Outcome where
  | accepted (value : Int)
  | failed (f : Failure)
  deriving DecidableEq, Repr

/-- The spike check is made, and fails, for a slot in VALID or STALE (R78). -/
def spikes (r : SensorRecord) (spikeLimit : Nat) (v : Int) : Bool :=
  decide ((r.status = .valid ∨ r.status = .stale)) &&
    r.lastAccepted.any fun last => decide (spikeLimit < (v - last).natAbs)

/-- The outcome of a transaction by what the bus did, the checks in their order (R78). -/
def judge (r : SensorRecord) (spikeLimit : Nat) : BusOutcome → Outcome
  | .stuck => .failed { kind := .busStuck, value := none }
  | .noAcknowledge => .failed { kind := .noAnswer, value := none }
  | .value bits =>
    let v := bits.toInt
    if inRange (-640) 960 v then
      if spikes r spikeLimit v then .failed { kind := .spike, value := some v } else .accepted v
    else .failed { kind := .range, value := some v }

/-- An accepted reading (R84). -/
def acceptReading (n : Fin 8) (v : Int) (s : State) : State :=
  let wasFault := decide ((s.sensor n).status = .fault)
  let s := s.updSensor n fun r =>
    { r with
      status := .valid, lastAccepted := some v, failures := 0, framesSince := 0, fresh := s.atMark }
  let s := if wasFault then s.raise .C (.sensorRecovered n v) else s
  sensorNotice n s

/-- A failure of a slot (R85). -/
def countFailure (n : Fin 8) (f : Failure) (s : State) : State :=
  let before := s.sensor n
  let k := min (before.failures + 1) 3
  let enters := k = 3 ∧ before.status ≠ .fault
  let s := s.updSensor n fun r =>
    { r with failures := k, lastFailure := some f, status := if enters then .fault else r.status }
  if enters then
    let s := s.raise .C (.sensorFault n f.kind)
    if before.status = .valid then sensorNotice n s else s
  else s

/-- The outcome of a transaction applied to its slot (R84, R85). -/
def applyOutcome (n : Fin 8) (o : Outcome) (s : State) : State :=
  match o with
  | .accepted v => acceptReading n v s
  | .failed f => countFailure n f s

/-- SENSOR_TRANSACTION_END (R78, R81 to R85); in IDLE there is no transaction to end. -/
def execSensorTransactionEnd (bus : BusOutcome) (s : State) : Answer :=
  .next (match s.temp.round with
    | none => s
    | some r =>
      if r.void then roundOn r.spikeLimit r.rest s
      else
        let s := applyOutcome r.slot (judge (s.sensor r.slot) r.spikeLimit bus) s
        if bus = .stuck then s.setRound none else roundOn r.spikeLimit r.rest s)

/-! ### STALE (R86) -/

/-- A VALID slot whose count of frames since accepted exceeds the stale limit (R86). -/
def staleAt (s : State) (n : Fin 8) (frames : Nat) : Bool :=
  decide ((s.sensor n).status = .valid ∧ s.settings.staleLimit * Config.framesPerSecond < frames)

/-- The slot is found beyond the stale limit at the frame mark whose FRAME_MARK has been taken. The comparison
is made at the frame mark alone, by the limit in force there, so it is over once the first sample period of the
frame has been taken (R86, R91, log entry 28). -/
def staleDue (s : State) (n : Fin 8) : Bool :=
  decide (s.sampleIndex = 0) && staleAt s n (s.sensor n).framesSince

/-- The slot is found beyond the stale limit at the coming frame mark. -/
def staleDueNext (s : State) (n : Fin 8) : Bool :=
  s.frameOver && staleAt s n ((s.sensor n).framesSince + 1) && !(s.sensor n).fresh

/-- A VALID slot becomes STALE, with a sensor notice (R86). -/
def becomeStale (n : Fin 8) (s : State) : State :=
  sensorNotice n (s.updSensor n fun r => { r with status := .stale })

/-- SENSOR_STALE (R86): after its FRAME_MARK, or before it (log entry 5). -/
def execSensorStale (slot : Fin 8) (s : State) : Answer :=
  .next (if staleDue s slot then becomeStale slot s
    else if staleDueNext s slot then becomeStale slot { s with atMark := true }
    else s)

/-! ### Commands (R82, R87 to R89) -/

/-- A command for the slot in flight makes its transaction void (R82). -/
def voidIfInFlight (n : Fin 8) (s : State) : State :=
  match s.temp.round with
  | some r => if r.slot = n then s.setRound (some { r with void := true }) else s
  | none => s

/-- A slot that left VALID or MANUAL hands a sensor notice (R80). -/
def noticeIfLeft (n : Fin 8) (before : SensorStatus) (s : State) : State :=
  if before.isUsable ∧ (s.sensor n).status.isUsable = false then sensorNotice n s else s

/-- The state of a slot after a SENSOR_SETUP (R87). -/
def setupStatus (before after : SensorFields) (st : SensorStatus) : SensorStatus :=
  match before.enabled, after.enabled with
  | false, false => st
  | false, true => .seeking
  | true, false => .off
  | true, true =>
    if before.address = after.address then st
    else if st.isManual then st
    else .seeking

/-- The record of a slot after a SENSOR_SETUP (R87). -/
def setupRecord (before after : SensorFields) (r : SensorRecord) : SensorRecord :=
  if before = after then r
  else
    { status := setupStatus before after r.status, lastAccepted := none, failures := 0,
      framesSince := Config.frameCountMax, lastFailure := none, fresh := false }

/-- The fields and the record of a slot changed as SENSOR_SETUP changes them (R87). -/
def setupSlot (n : Fin 8) (f : SensorFields) (s : State) : State :=
  let before := s.sensorFields n
  let s := s.updSensor n (setupRecord before f)
  { s with settings := { s.settings with sensors := s.settings.sensors.set n f } }

/-- The manual value of a state (R79). -/
def SensorStatus.manualValue : SensorStatus → Option Int
  | .manual v => some v
  | .off | .seeking | .valid | .stale | .fault => none

/-- The record of a slot, every field (R79, R90). -/
def bSensor (s : State) (n : Fin 8) : List Byte :=
  let f := s.sensorFields n
  let r := s.sensor n
  bYes f.enabled ++ bNum1 f.address ++ bNum1 r.status.place ++ bytesOption bInt r.lastAccepted ++
    bNat r.failures ++ bNat r.framesSince ++ bytesOption bFailure r.lastFailure ++
    bytesOption bInt r.status.manualValue

/-- A sensor address 0x08 to 0x77 (R79, R87). -/
def sensorAddress (a : Nat) : Option Nat := if 0x08 ≤ a ∧ a ≤ 0x77 then some a else none

/-- SENSOR_SETUP (R87). -/
def takeSensorSetup (p : Port) (slot : Nat) (enabled : Choice) (address : Nat) (s : State) : Answer :=
  .next (guarded s p 0x0D (decide (p = .C)) fun s =>
    checked s p 0x0D (toFin 8 slot) fun n =>
      checked s p 0x0D (choiceBool enabled) fun e =>
        checked s p 0x0D (sensorAddress address) fun a =>
          let before := (s.sensor n).status
          let s := setupSlot n { enabled := e, address := a } (voidIfInFlight n s)
          let s := noticeIfLeft n before s
          s.answer p 0x0D .ok (bSensor s n))

/-- SENSOR_MANUAL (R88). -/
def takeSensorManual (p : Port) (slot : Nat) (value : Int) (s : State) : Answer :=
  .next (guarded s p 0x0E (decide (p = .C)) fun s =>
    checked s p 0x0E (toFin 8 slot) fun n =>
      let s := (voidIfInFlight n s).updSensor n fun r =>
        { r with status := .manual (limit (-640) 960 value), failures := 0 }
      let s := sensorNotice n s
      s.answer p 0x0E (if inRange (-640) 960 value then .ok else .okClamped) (bSensor s n))

/-- The record of a slot after a SENSOR_AUTO (R89). -/
def autoRecord (enabled : Bool) (r : SensorRecord) : SensorRecord :=
  if r.status = .off then r
  else { r with status := if enabled then .seeking else .off, failures := 0 }

/-- SENSOR_AUTO (R89); its rule lists no item of a response, so the answer carries none (R190). -/
def takeSensorAuto (p : Port) (slot : Nat) (s : State) : Answer :=
  .next (guarded s p 0x0F (decide (p = .C)) fun s =>
    checked s p 0x0F (toFin 8 slot) fun n =>
      let before := (s.sensor n).status
      let s := (voidIfInFlight n s).updSensor n (autoRecord (s.sensorFields n).enabled)
      (noticeIfLeft n before s).answer p 0x0F .ok [])

/-! ### Reading (R90) -/

/-- READ_SENSORS (R90). -/
def takeReadSensors (p : Port) (s : State) : Answer :=
  .next (guarded s p 0x10 true fun s =>
    s.answer p 0x10 .ok
      (allSlots.flatMap (fun n => bSensor s n ++ bYes (s.sensor n).usable.isSome) ++
        bNum1 (if s.temp.round.isSome then 1 else 0) ++
        bytesOption (fun r : Round => bNum1 r.slot.val) s.temp.round ++
        bNat (s.temp.pollTimer.getD 0) ++
        bNat s.settings.pollInterval ++ bNat s.settings.staleLimit ++ bNat s.settings.spikeLimit ++
        bytesOption (fun r : Round => bNat r.spikeLimit) s.temp.round))

end Sys2Proof.Machine
end

