-- ==== Sys2Proof/Machine/Store.lean ====
section
/-! DEFINITION. Chapter 10: the preset store while the part runs. Write commands (R162 to R164), phase
completions and the end of an operation (R165 to R167), the lock override (R168), recalls (R169 to R172)
and READ_STORE (R173). The start-up scan and load are in Reset.lean. -/

namespace Sys2Proof.Machine

/-- The store changed. -/
def State.updStore (s : State) (f : StoreUnit → StoreUnit) : State := { s with store := f s.store }

/-- The lock override lowered (R168). -/
def lowerOverride (s : State) : State := s.updStore fun x => { x with override := false }

/-! ### Serving recalls and resuming (R167, R170, R171) -/

/-- The state of a running phase (R163). -/
def Phase.running : Phase → StoreState
  | .erase => .erasing
  | .program => .programming
  | .lock => .locking

/-- The store goes on: the head recall leaves the queue and is read; with an empty queue the operation
resumes its phase, or the store enters READY (R167, R170, R171). -/
def storeGoOn (s : State) : State :=
  match s.store.recalls, s.store.op with
  | r :: rest, _ =>
    s.updStore fun x => { x with recalls := rest, reading := some r, state := .reading }
  | [], some op => s.updStore fun x => { x with reading := none, state := op.phase.running }
  | [], none => s.updStore fun x => { x with reading := none, state := .ready }

/-! ### Write commands (R162, R164) -/

/-- The command erases before it does anything else (R162). -/
def WriteCommand.erases : WriteCommand → Bool
  | .lockZone => false
  | .eraseSector | .storeZone | .storeScene | .storeSystem => true

/-- The command is subject to the lock of a zone sector (R164, step 7). -/
def WriteCommand.minds : WriteCommand → Bool
  | .eraseSector | .storeZone => true
  | .storeScene | .storeSystem | .lockZone => false

/-- The check a write command fails first, if any (R164). `permitted` is the privilege of step 2, `n` the
sector where step 3 passes, `mayStore` step 4. -/
def writeFailure (s : State) (cmd : WriteCommand) (permitted : Bool) (n : Option SectorNo)
    (mayStore : Bool) : Option Result :=
  if s.starting then some .starting
  else if permitted = false then some .notPermitted
  else match n with
    | none => some .badValue
    | some n =>
      if mayStore = false then some .notPermitted
      else if s.store.state ≠ .ready then some .storeBusy
      else if s.store.fault.isSome then some .faultPending
      else if cmd.minds ∧ (sectorZone n).isSome ∧ (s.sector n).lock ∧ s.store.override = false then
        some .locked
      else if cmd = .lockZone ∧ (s.sector n).state ≠ .valid then some .notValid
      else none

/-- The erase count raised and the operation mark set at the start of an erase phase (R164). -/
def Sector.eraseBegun (x : Sector) : Sector :=
  { x with eraseCount := min (x.eraseCount + 1) Config.eraseCountMax, mark := true }

/-- The operation begins at the command event (R164). -/
def beginWrite (p : Port) (cmd : WriteCommand) (n : SectorNo) (captured : Contents) (s : State) :
    State :=
  if cmd.erases then
    (s.updSector n Sector.eraseBegun).updStore fun x =>
      { x with
        state := .erasing,
        op := some
          { command := cmd, port := p, sector := n, captured := captured, phase := .erase,
            left := Config.eraseMs } }
  else
    s.updStore fun x =>
      { x with
        state := .locking,
        op := some
          { command := cmd, port := p, sector := n, captured := captured, phase := .lock,
            left := Config.lockMs } }

/-- A write command taken: begun and answered OK with the sector and its erase count, or refused, which
lowers the lock override (R164, R168). -/
def writeCommand (p : Port) (cmd : WriteCommand) (permitted : Bool) (n : Option SectorNo)
    (mayStore : Bool) (captured : Contents) (s : State) : State :=
  match writeFailure s cmd permitted n mayStore, n with
  | none, some n =>
    let s := beginWrite p cmd n captured s
    s.answer p cmd.code .ok (bNum1 n.val ++ bNat (s.sector n).eraseCount)
  | some r, _ => (lowerOverride s).answer p cmd.code r []
  | none, none => (lowerOverride s).answer p cmd.code .badValue []

/-- The gain, mute and EQ select of every zone's active record (R162). -/
def capturedScene (s : State) : Scene :=
  Vector.ofFn fun z : Zone =>
    { gain := (s.active z).gain, mute := (s.active z).mute, select := (s.active z).eqSelect }

/-- A scene the port may store (R162). -/
def mayStoreScene (p : Port) (n : Nat) : Bool :=
  match p with
  | .P => decide (n ≤ 5)
  | .V => decide (6 ≤ n)
  | .C => true

/-- ERASE_SECTOR (R162, R164). -/
def takeEraseSector (p : Port) (sector : Nat) (s : State) : Answer :=
  .next (writeCommand p .eraseSector (decide (p = .C)) (toFin 41 sector) true .erased s)

/-- STORE_ZONE (R162, R164). -/
def takeStoreZone (p : Port) (zone : Nat) (s : State) : Answer :=
  .next (writeCommand p .storeZone (decide (p = .C)) ((zoneOf zone).map zoneSector) true
    (((zoneOf zone).map fun z => Contents.zone (s.active z)).getD .erased) s)

/-- STORE_SCENE (R162, R164). -/
def takeStoreScene (p : Port) (scene : Nat) (s : State) : Answer :=
  .next (writeCommand p .storeScene true ((toFin 8 scene).map sceneSector) (mayStoreScene p scene)
    (.scene (capturedScene s)) s)

/-- STORE_SYSTEM (R162, R164). -/
def takeStoreSystem (p : Port) (s : State) : Answer :=
  .next (writeCommand p .storeSystem (decide (p = .C)) (some systemSector) true (.system s.settings) s)

/-- LOCK_ZONE (R162, R164). -/
def takeLockZone (p : Port) (zone : Nat) (s : State) : Answer :=
  .next (writeCommand p .lockZone (decide (p = .C)) ((zoneOf zone).map zoneSector) true .erased s)

/-! ### Phase completions (R165 to R167) -/

/-- The end of an operation: the store goes on, the notification is raised to the issuing port, a fault is
recorded, and the override lowered (R167). -/
def endOperation (op : Operation) (fault : Option StoreFaultKind) (s : State) : State :=
  let s := storeGoOn (s.updStore fun x => { x with op := none })
  let s := match fault with
    | none => s.raise op.port (.storeDone op.command op.sector)
    | some k =>
      let f : StoreFault :=
        { kind := k, command := op.command, sector := op.sector, port := op.port }
      (s.updStore fun x => { x with fault := some f }).raise op.port
        (.storeFault op.command op.sector k)
  lowerOverride s

/-- The zone of a sector made BLANK or VALID leaves the corrupt list (R165, R166). -/
def leaveCorrupt (n : SectorNo) (s : State) : State :=
  s.updStore fun x => { x with corrupt := x.corrupt.filter fun z => decide (zoneSector z ≠ n) }

/-- The stated duration of the program phase of a command (R162). -/
def WriteCommand.programMs : WriteCommand → Nat
  | .storeZone => Config.programZoneMs
  | .storeScene | .storeSystem | .eraseSector | .lockZone => Config.programSmallMs

/-- An erase phase whose verify passes (R165). -/
def erasePassed (op : Operation) (s : State) : State :=
  let s := s.updSector op.sector fun x =>
    { x with
      lock := false, state := .blank, contents := .erased, check := 0#32,
      mark := x.mark && decide (op.command ≠ .eraseSector) }
  let s := leaveCorrupt op.sector s
  if op.command = .eraseSector then endOperation op none s
  else
    s.updStore fun x =>
      { x with
        state := .programming,
        op := some { op with phase := .program, left := op.command.programMs } }

/-- An erase phase whose verify fails (R165). -/
def eraseFailed (op : Operation) (s : State) : State :=
  endOperation op (some .eraseFault)
    (s.updSector op.sector fun x =>
      { x with lock := false, state := .corrupt, contents := .damaged })

/-- ERASE_COMPLETE (R165); only a running erase phase completes. -/
def execEraseComplete (pass : Bool) (s : State) : Answer :=
  .next (match s.store.state, s.store.op with
    | .erasing, some op => if pass then erasePassed op s else eraseFailed op s
    | _, _ => s)

/-- A program phase whose verify passes (R166). -/
def programPassed (op : Operation) (s : State) : State :=
  let s := s.updSector op.sector fun x =>
    { x with
      state := .valid, contents := op.captured, check := op.captured.checkValue, mark := false }
  endOperation op none (leaveCorrupt op.sector s)

/-- A program phase whose verify fails (R166). -/
def programFailed (op : Operation) (s : State) : State :=
  endOperation op (some .programFault)
    (s.updSector op.sector fun x =>
      { x with state := .corrupt, contents := .damaged, check := op.captured.checkValue })

/-- PROGRAM_COMPLETE (R166); only a running program phase completes. -/
def execProgramComplete (pass : Bool) (s : State) : Answer :=
  .next (match s.store.state, s.store.op with
    | .programming, some op => if pass then programPassed op s else programFailed op s
    | _, _ => s)

/-- LOCK_COMPLETE (R166); only a running lock phase completes. -/
def execLockComplete (pass : Bool) (s : State) : Answer :=
  .next (match s.store.state, s.store.op with
    | .locking, some op =>
      if pass then endOperation op none (s.updSector op.sector fun x => { x with lock := true })
      else endOperation op (some .programFault) s
    | _, _ => s)

/-! ### Recalls (R169 to R172) -/

/-- The check a RECALL_SCENE fails at steps 4 to 7 (R169). -/
def recallFailure (s : State) (n : Fin 8) : Option Result :=
  if s.store.op.any fun op => decide (op.sector = sceneSector n) then some .sectorBusy
  else if (s.sector (sceneSector n)).state = .blank then some .sceneEmpty
  else if (s.sector (sceneSector n)).state = .corrupt then some .sceneCorrupt
  else if Config.recallPlaces ≤ s.store.recalls.length then some .storeBusy
  else none

/-- "V scene recall failed" set by a failed recall of port V (R172). -/
def recallFailed (p : Port) (s : State) : State :=
  if p = .V then s.updStore fun x => { x with vRecallFailed := true } else s

/-- A recall put in its place: of port V behind those of port V and ahead of the others, of ports P and C
at the young end (R169). -/
def placeRecall (r : Recall) (l : List Recall) : List Recall :=
  if r.port = .V then
    l.takeWhile (fun x => decide (x.port = .V)) ++ r :: l.dropWhile fun x => decide (x.port = .V)
  else l ++ [r]

/-- The position a recall takes, counted from 1 at the head (R169). -/
def recallPosition (p : Port) (l : List Recall) : Nat :=
  if p = .V then (l.takeWhile fun x => decide (x.port = .V)).length + 1 else l.length + 1

/-- A recall just placed is served by the store state (R170). -/
def serveRecall (s : State) : State :=
  match s.store.state with
  | .ready => storeGoOn s
  | .erasing | .programming => s.updStore fun x => { x with state := .suspending }
  | .starting | .locking | .suspending | .reading => s

/-- RECALL_SCENE (R169, R170, R172). -/
def takeRecallScene (p : Port) (scene : Nat) (s : State) : Answer :=
  .next (if s.starting then s.answer p 0x25 .starting []
    else checked s p 0x25 (toFin 8 scene) fun n =>
      if p = .P ∧ 6 ≤ n.val then s.answer p 0x25 .notPermitted []
      else match recallFailure s n with
        | some r => (recallFailed p s).answer p 0x25 r []
        | none =>
          let position :=
            if s.store.state = .ready then 0 else recallPosition p s.store.recalls
          (serveRecall (s.updStore fun x =>
            { x with recalls := placeRecall { port := p, scene := n } x.recalls })).answer p 0x25 .ok
            (bNat position))

/-- SUSPENSION_EVENT (R170): the halted phase becomes the suspended operation and the head recall is
read. -/
def execSuspensionEvent (s : State) : Answer :=
  .next (if s.store.state = .suspending then storeGoOn s else s)

/-- The items a sector's contents give to a read whose check passes (R171). -/
def sceneOf (x : Sector) (sound : Bool) : Option Scene :=
  match x.contents with
  | .scene items => if sound && decide (x.contents.checkValue = x.check) then some items else none
  | .erased | .zone _ | .system _ | .damaged => none

/-- A recall fails after its answer: SCENE_FAILED to the three ports, and the fault member for port V
(R171, R172). -/
def failRecall (r : Recall) (why : SceneFailure) (s : State) : State :=
  (recallFailed r.port s).raiseAll [.P, .V, .C] (.sceneFailed r.port r.scene why)

/-- A recall succeeds (R171); one of port V clears the fault member (R172). -/
def succeedRecall (r : Recall) (s : State) : State :=
  if r.port = .V then s.updStore fun x => { x with vRecallFailed := false } else s

/-- The read of a scene ends: its check, and the offer of its SCENE entry (R26, R171). -/
def readEnd (r : Recall) (sound : Bool) (s : State) : State :=
  match sceneOf (s.sector (sceneSector r.scene)) sound with
  | none =>
    failRecall r .corrupt
      (s.updSector (sceneSector r.scene) fun x => { x with state := .corrupt, contents := .damaged })
  | some items =>
    let e : QueueEntry := { port := r.port, zone := .all, change := .scene items, bypass := 0 }
    match offerOutcome s.queue e with
    | .full => failRecall r .queueFull s
    | .merged _ | .appended _ => succeedRecall r (offer e s)

/-- SCENE_READ_END (R171); only a read in progress ends. -/
def execSceneReadEnd (sound : Bool) (s : State) : Answer :=
  .next (match s.store.state, s.store.reading with
    | .reading, some r => storeGoOn (readEnd r sound s)
    | _, _ => s)

/-! ### The fault record and the override (R167, R168) -/

/-- Port C, and port P where the record names a scene sector, may clear the fault record (R167). -/
def mayClearFaults (p : Port) (f : Option StoreFault) : Bool :=
  match p with
  | .C => true
  | .P => f.any fun f => decide (32 ≤ f.sector.val ∧ f.sector.val ≤ 39)
  | .V => false

/-- A store fault as the fault record holds it (R167). -/
def bStoreFault (f : StoreFault) : List Byte :=
  bNum1 f.kind.place ++ bNum1 f.command.code ++ bNum1 f.sector.val ++ bPort f.port

/-- CLEAR_STORE_FAULTS (R167). -/
def takeClearStoreFaults (p : Port) (s : State) : Answer :=
  .next (guarded s p 0x26 (mayClearFaults p s.store.fault) fun s =>
    (s.updStore fun x => { x with fault := none }).answer p 0x26 .ok
      (bytesOption bStoreFault s.store.fault))

/-- OVERRIDE_LOCKS (R168). -/
def takeOverrideLocks (p : Port) (s : State) : Answer :=
  .next (guarded s p 0x27 (decide (p = .C)) fun s =>
    (s.updStore fun x => { x with override := true }).answer p 0x27 .ok (bYes true))

/-- LOWER_OVERRIDE (R168). -/
def takeLowerOverride (p : Port) (s : State) : Answer :=
  .next (guarded s p 0x28 (decide (p = .C)) fun s =>
    (lowerOverride s).answer p 0x28 .ok (bYes false))

/-! ### Reading (R173) -/

/-- The operation in flight is suspended (R163), from SUSPENDING on (DEDUCED, log entry 33: R170 says so from the
suspension event). -/
def StoreUnit.suspended (x : StoreUnit) : Bool :=
  x.op.isSome && decide (x.state = .suspending ∨ x.state = .reading)

def bRecall (r : Recall) : List Byte := bPort r.port ++ bNum1 r.scene.val

/-- What READ_STORE reports of one sector (R173). -/
def bSector (s : State) (n : SectorNo) : List Byte :=
  let x := s.sector n
  bNum1 x.state.place ++ bNat x.eraseCount ++ bYes x.mark ++
    (if (sectorZone n).isSome then bYes x.lock else [])

/-- READ_STORE (R173). -/
def takeReadStore (p : Port) (s : State) : Answer :=
  .next (guarded s p 0x29 true fun s =>
    s.answer p 0x29 .ok
      ((List.finRange 41).flatMap (bSector s) ++ bNum1 s.store.state.place ++
        bytesOption (fun op : Operation =>
          bNum1 op.command.code ++ bPort op.port ++ bNum1 op.sector.val ++ bNum1 op.phase.place ++
            bNat op.left ++ bYes s.store.suspended) s.store.op ++
        bytesList bRecall s.store.recalls ++ bytesOption bRecall s.store.reading ++
        bytesOption bStoreFault s.store.fault ++ bYes s.store.override ++
        bytesList bZone s.store.corrupt ++ bYes s.store.vRecallFailed))

end Sys2Proof.Machine
end

