-- ==== Sys2Proof/Machine/Reset.lean ====
section
/-! DEFINITION. Resets and start-up: the scan of the sectors (R175), the settings loaded (R175, R92, R93), the
cold reset (R16 and the reset rules of every chapter), the RESTART event (R193), the load of the zones
with its repairs (R5, R176) and the end of start-up (R177). -/

namespace Sys2Proof.Machine

/-! ### The scan (R175) -/

/-- Contents of the sector's own kind (R161). -/
def Contents.ofKind (n : SectorNo) : Contents → Bool
  | .zone _ => decide (n.val < 32)
  | .scene _ => decide (32 ≤ n.val ∧ n.val < 40)
  | .system _ => decide (n.val = 40)
  | .erased | .damaged => false

/-- Each structural value in the contents lies within its range: a base page or page count taken alone, and
each gain code of a scene item; zone numbers, bank numbers, EQ selects and yes/no values lie in range by
their types (R175). -/
def Contents.structural : Contents → Bool
  | .zone r =>
    match r.allocation with
    | some a => decide (a.base ≤ 511 ∧ 1 ≤ a.count ∧ a.count ≤ 128)
    | none => true
  | .scene x => allZones.all fun z => inRange (-160) 24 x[z].gain
  | .system _ => true
  | .erased | .damaged => false

/-- The state the scan finds a sector in (R175). -/
def scannedState (n : SectorNo) (x : Sector) : SectorState :=
  if x.mark then .corrupt
  else if x.contents = .erased then .blank
  else if x.contents.ofKind n && x.contents.structural &&
      decide (x.contents.checkValue = x.check) then .valid
  else .corrupt

/-- The scan of the 41 sectors (R175). -/
def scan (l : Vector Sector 41) : Vector Sector 41 :=
  Vector.ofFn fun n => { l[n] with state := scannedState n l[n] }

/-- The corrupt list as the scan builds it (R176, R179). -/
def corruptOf (l : Vector Sector 41) : List Zone :=
  allZones.filter fun z => decide (l[zoneSector z].state = .corrupt)

/-- Stored settings, each numeric field limited and each sensor address limited to 0x08 to 0x77 (R175). -/
def loadedSettings (x : Settings) : Settings :=
  { tRef := limit (-640) 960 x.tRef, deadband := limitNat 0 64 x.deadband,
    bypassMax := limitNat 1 15 x.bypassMax, wakeMax := limitNat 1 8 x.wakeMax,
    wakeWindow := limitNat 1 100 x.wakeWindow, pollInterval := limitNat 1 60 x.pollInterval,
    staleLimit := limitNat 5 600 x.staleLimit, spikeLimit := limitNat 8 160 x.spikeLimit,
    sensors := Vector.ofFn fun n =>
      { x.sensors[n] with address := limitNat 0x08 0x77 x.sensors[n].address } }

/-- The settings start-up takes from the scanned sectors (R175). -/
def settingsFrom (l : Vector Sector 41) : Settings :=
  if l[systemSector].state = .valid then
    match l[systemSector].contents with
    | .system x => loadedSettings x
    | .erased | .zone _ | .scene _ | .damaged => Settings.default
  else Settings.default

/-! ### The resets -/

/-- The state every reset begins with: every block at its reset values, the sectors scanned and the settings
loaded. The temperature unit, the last reset's kind and the model's own fields are the arguments. -/
def afterReset (pending : List Instr) (sectors : Vector Sector 41) (temp : TempUnit)
    (kind : ResetKind) (sampleIndex : Nat) (ampSent : Vector Bool 32) : State :=
  let sectors := scan sectors
  { State.reset with
    pending := pending,
    temp := temp,
    settings := settingsFrom sectors,
    store := { StoreUnit.afterReset sectors with corrupt := corruptOf sectors },
    lastReset := kind,
    sampleIndex := sampleIndex,
    ampSent := ampSent }

/-- The temperature unit after a cold reset, by the settings loaded (R92). -/
def coldTemp (x : Settings) : TempUnit :=
  { sensors := Vector.ofFn fun n => SensorRecord.initial x.sensors[n].enabled,
    pollTimer := none, pollFresh := false, round := none }

/-- COLD_RESET (R16, R35, R57, R75, R92, R110, R129, R143, R160, R174, R175, R178 to R180, R185, R194). -/
def execColdReset (s : State) : Answer :=
  .next (afterReset s.pending s.store.sectors (coldTemp (settingsFrom (scan s.store.sectors))) .cold 0
    (Vector.replicate 32 false))

/-- The record of a slot after a RESTART: kept where the loaded fields equal those it held, and otherwise changed
as SENSOR_SETUP would change it, but that a slot loaded with enabled no becomes OFF and one newly enabled or given a
new address SEEKING, either losing any manual value (R93; DEDUCED for a MANUAL slot, log entry 34). -/
def restartRecord (before after : SensorFields) (r : SensorRecord) : SensorRecord :=
  if before = after then r
  else { setupRecord before after r with status := if after.enabled then .seeking else .off }

/-- The temperature unit after a RESTART (R93). -/
def restartTemp (old new : Settings) (t : TempUnit) : TempUnit :=
  { sensors := Vector.ofFn fun n => restartRecord old.sensors[n] new.sensors[n] t.sensors[n],
    pollTimer := none, pollFresh := false, round := none }

/-- The reset event of a RESTART of port p (R193 and the reset rules of every chapter). The audio clock runs on, so
the place in the frame stands (log entry 5). -/
def restartEvent (p : Port) (s : State) : State :=
  afterReset s.pending s.store.sectors
    (restartTemp s.settings (settingsFrom (scan s.store.sectors)) s.temp) (.restart p)
    s.sampleIndex s.ampSent

/-! ### Loading a zone (R5, R176) -/

/-- A stored record's numeric fields limited to their ranges (R5). -/
def ZoneRecord.limited (r : ZoneRecord) : ZoneRecord :=
  { r with
    pathLength := limit 0 400000 r.pathLength,
    precedence := limit 0 960 r.precedence,
    trim := limit (-6400) 6400 r.trim,
    weights := Vector.ofFn fun n => limitNat 0 15 r.weights[n],
    coupling := r.coupling.map fun k => { k with offset := limit (-64000) 64000 k.offset },
    slew := limitNat 1 64 r.slew,
    fadeLength := limitNat 0 255 r.fadeLength,
    wakeTime := limitNat 0 1000 r.wakeTime,
    parkHang := limitNat 0 60000 r.parkHang,
    gain := limit (-160) 24 r.gain,
    evacGain := limit (-160) 24 r.evacGain }

/-- The zones loaded before a zone (R176). -/
def loadedBefore (z : Zone) : List Zone := allZones.filter fun y => decide (y.val < z.val)

/-- The stored allocation is dropped: it runs beyond page 511, or shares a page with one kept by a
lower-numbered zone (R5, R176). -/
def allocationDropped (s : State) (z : Zone) (r : ZoneRecord) : Bool :=
  match r.allocation with
  | some a =>
    !a.inMemory ||
      (loadedBefore z).any fun y => (s.active y).allocation.any fun b => a.overlaps b
  | none => false

/-- The stored coupling is dropped: it names the zone itself or a lower-numbered follower, or belongs to the
leader of a lower-numbered zone (R5, R176). -/
def couplingDropped (s : State) (z : Zone) (r : ZoneRecord) : Bool :=
  match r.coupling with
  | some k =>
    decide (k.leader = z) ||
      (decide (k.leader.val < z.val) && (s.active k.leader).coupling.isSome) ||
      (loadedBefore z).any fun y => (s.active y).coupling.any fun x => decide (x.leader = z)
  | none => false

/-- A stored record repaired against the zones already loaded (R5, R176). -/
def repaired (s : State) (z : Zone) (r : ZoneRecord) : ZoneRecord :=
  let allocation := if allocationDropped s z r then none else r.allocation
  { r with
    allocation := allocation,
    enabled := r.enabled && allocation.isSome,
    coupling := if couplingDropped s z r then none else r.coupling }

/-- The record and the load status of a zone (R15, R176). -/
def loadOf (s : State) (z : Zone) : ZoneRecord × LoadStatus :=
  let x := s.sector (zoneSector z)
  match x.state, x.contents with
  | .valid, .zone r =>
    let r := r.limited
    (repaired s z r,
      { origin := .sector, allocDropped := allocationDropped s z r,
        couplingDropped := couplingDropped s z r })
  | .blank, _ =>
    (ZoneRecord.default, { origin := .defaultBlank, allocDropped := false, couplingDropped := false })
  | _, _ =>
    (ZoneRecord.default, { origin := .defaultCorrupt, allocDropped := false, couplingDropped := false })

/-- A record written at start-up load: both copies, no group and no notice (R16). -/
def loadZone (z : Zone) (s : State) : State :=
  let x := loadOf s z
  s.updEntry z fun e => { e with active := x.1, shadow := x.1, status := x.2 }

/-- Scene 0 written over the gain, mute and EQ select of a zone, where its sector is VALID (R16, R177). -/
def applySceneZero (z : Zone) (s : State) : State :=
  let x := s.sector (sceneSector 0)
  match x.state, x.contents with
  | .valid, .scene items => writeBoth z (Change.write (.scene items) z) s
  | _, _ => s

/-- The power state in which a zone comes up, without a power notice: PARKED if its record is enabled, and else
DISABLED. The change of state sets frames in state to 0; a zone that stays DISABLED goes on counting (R16, R130,
R143). -/
def comeUp (z : Zone) (s : State) : State :=
  let new : PowerState := if (s.active z).enabled then .parked else .disabled
  if s.powerOf z = new then s
  else s.updPower z fun _ => { state := new, framesInState := 0, fresh := s.atMark }

/-- D_cur takes D_tgt, and the line of a PARKED zone is cleared (R57, R75). -/
def lineUp (z : Zone) (s : State) : State :=
  let s := s.updLine z fun l => { l with dCur := (s.zone z).target.tgt }
  if s.powerOf z = .parked then clearLine z s else s

/-- The end of start-up load: the zones loaded, scene 0 applied, the first computation, the lines and the
cascades set up, STARTUP_DONE raised, and the store READY (R177). -/
def startUp (s : State) : State :=
  let s := s.eachZone loadZone
  let s := s.eachZone applySceneZero
  let s := s.eachZone comeUp
  let s := s.eachZone (compute .record false)
  let s := s.eachZone lineUp
  let s := s.eachZone eqSetUp
  let s := s.raiseAll [.P, .V, .C] (.startupDone (decide (s.lastReset ≠ .cold)))
  let s := s.updStore fun x => { x with state := .ready }
  startRound (loadTimer s)

/-- STARTUP_DONE (R177); only a start-up in progress ends. -/
def execStartupDone (s : State) : Answer :=
  .next (if s.starting then startUp s else s)

end Sys2Proof.Machine
end

