-- ==== Sys2Proof/Machine/System.lean ====
section
/-! DEFINITION. Chapter 11, the commands away from the links: SET_SYSTEM and READ_SYSTEM (R191), the
notification commands (R183 to R185), supervision of port V (R180, R181), READ_STATUS (R192) and
RESTART (R193). -/

namespace Sys2Proof.Machine

/-! ### The system settings record (R191) -/

/-- The numeric fields of SET_SYSTEM with their ranges (R191). -/
def systemFields (a : SystemArg) : List Numeric :=
  [⟨0, -640, 960, a.tRef⟩, ⟨1, 0, 64, a.deadband⟩, ⟨2, 1, 15, a.bypassMax⟩, ⟨3, 1, 8, a.wakeMax⟩,
    ⟨4, 1, 100, a.wakeWindow⟩, ⟨5, 1, 60, a.pollInterval⟩, ⟨6, 5, 600, a.staleLimit⟩,
    ⟨7, 8, 160, a.spikeLimit⟩]

/-- The settings with the eight values, each limited; the sensor fields stand (R191). -/
def settingsOf (a : SystemArg) (sensors : Vector SensorFields 8) : Settings :=
  { tRef := limit (-640) 960 a.tRef, deadband := limitNat 0 64 a.deadband,
    bypassMax := limitNat 1 15 a.bypassMax, wakeMax := limitNat 1 8 a.wakeMax,
    wakeWindow := limitNat 1 100 a.wakeWindow, pollInterval := limitNat 1 60 a.pollInterval,
    staleLimit := limitNat 5 600 a.staleLimit, spikeLimit := limitNat 8 160 a.spikeLimit,
    sensors := sensors }

/-- A lower BYPASS_MAX lowers the counts above it (R29). -/
def lowerBypass (m : Nat) (q : ChangeQueue) : ChangeQueue :=
  { q with entries := q.entries.map fun e => { e with bypass := min e.bypass m } }

/-- The settings replaced, with the answers of the blocks that act at the event (R29, R55, R191). -/
def applySettings (new : Settings) (s : State) : State :=
  let old := s.settings
  let s := { s with settings := new, queue := lowerBypass new.bypassMax s.queue }
  if old.tRef = new.tRef then s else tRefChanged s

/-- SET_SYSTEM (R191). -/
def takeSetSystem (p : Port) (values : SystemArg) (s : State) : Answer :=
  .next (guarded s p 0x2A (decide (p = .C)) fun s =>
    let limited := limitedFields (systemFields values)
    let s := applySettings (settingsOf values s.settings.sensors) s
    s.answer p 0x2A (okResult limited) (bSettings s.settings ++ bSensorFields s.settings ++ bLimited limited))

/-- READ_SYSTEM (R191). -/
def takeReadSystem (p : Port) (s : State) : Answer :=
  .next (guarded s p 0x2B true fun s =>
    s.answer p 0x2B .ok (bSettings s.settings ++ bSensorFields s.settings))

/-! ### Notifications (R183 to R185) -/

/-- A kind number 1 to 16 as a place among the sixteen. -/
def kindOf (n : Nat) : Option (Fin 16) := if n = 0 then none else toFin 16 (n - 1)

/-- A kind as a response names it. -/
def bKind (k : Fin 16) : List Byte := bNum1 (k.val + 1)

/-- One kind of a port changed. -/
def State.updNote (s : State) (p : Port) (k : Fin 16) (f : NoteFlag → NoteFlag) : State :=
  s.updPort p fun x => { x with notes := x.notes.set k (f x.notes[k]) }

/-- NOTE_SETUP (R184). -/
def takeNoteSetup (p : Port) (kind : Nat) (enable : Choice) (level : Int) (s : State) : Answer :=
  .next (guarded s p 0x2C true fun s =>
    checked s p 0x2C (kindOf kind) fun k =>
      checked s p 0x2C (choiceBool enable) fun e =>
        let l := limitNat 0 7 level
        (s.updNote p k fun f => { f with enable := e, level := l }).answer p 0x2C
          (if inRange 0 7 level then .ok else .okClamped) (bKind k ++ bYes e ++ bNat l))

/-- A set flag as NOTE_READ lists it (R183). -/
def bFlag (s : State) (p : Port) (k : Fin 16) : List Byte :=
  bKind k ++ bNat (s.notes p)[k].level ++ bNat (s.notes p)[k].count

/-- The lead event with its detail (R183). -/
def bLead (s : State) (p : Port) (k : Fin 16) : List Byte :=
  bFlag s p k ++ (((s.notes p)[k].detail.map bDetail).getD [])

/-- NOTE_READ (R183). -/
def takeNoteRead (p : Port) (s : State) : Answer :=
  .next (guarded s p 0x2D true fun s =>
    s.answer p 0x2D .ok
      (bytesOption (bLead s p) (s.leadEvent p) ++ bytesList (bFlag s p) (s.setFlags p)))

/-- The kinds a NOTE_CLEAR names, each once, in kind order; none where one lies outside 1 to 16 (R185). -/
def kindSet (l : List Nat) : Option (List (Fin 16)) :=
  (checkAll kindOf l).map fun ks => allKinds.filter fun k => decide (k ∈ ks)

/-- A flag cleared (R185). -/
def NoteFlag.cleared (f : NoteFlag) : NoteFlag := { f with detail := none, count := 0 }

/-- NOTE_CLEAR (R185). -/
def takeNoteClear (p : Port) (kinds : List Nat) (s : State) : Answer :=
  .next (guarded s p 0x2E true fun s =>
    checked s p 0x2E (kindSet kinds) fun ks =>
      (ks.foldl (fun s k => s.updNote p k NoteFlag.cleared) s).answer p 0x2E .ok
        (bytesList (fun k => bKind k ++ bNat (s.notes p)[k].count) ks))

/-! ### Supervision (R180, R181) -/

/-- The timeout a SUPERVISE leaves in use: 0 keeps it, the rest is limited (R180). -/
def superviseTimeout (present : Nat) (t : Int) : Nat := if t = 0 then present else limitNat 100 10000 t

/-- The timer restarted (R180). -/
def superviseStart (timeout : Nat) (s : State) : State :=
  let before := s.supervision.watch
  let s := { s with
    supervision := { watch := .watching timeout, timeout := timeout, fresh := s.atMark } }
  if before = .lost then s.raiseAll [.P, .C] (.supervision .restored timeout) else s

/-- SUPERVISE (R180). -/
def takeSupervise (p : Port) (timeout : Int) (s : State) : Answer :=
  .next (guarded s p 0x2F (decide (p = .V)) fun s =>
    let t := superviseTimeout s.supervision.timeout timeout
    (superviseStart t s).answer p 0x2F
      (if timeout = 0 ∨ inRange 100 10000 timeout then .ok else .okClamped)
      (bNum1 s.supervision.watch.place ++ bNat t ++ bNat t))

/-- The timer put OFF (R181). -/
def superviseStop (s : State) : State :=
  let before := s.supervision.watch
  let s := { s with supervision := { s.supervision with watch := .off } }
  if before = .lost then s.raiseAll [.P, .C] (.supervision .ended s.supervision.timeout) else s

/-- SUPERVISE_END (R181). -/
def takeSuperviseEnd (p : Port) (s : State) : Answer :=
  .next (guarded s p 0x30 (decide (p = .V)) fun s => (superviseStop s).answer p 0x30 .ok [])

/-- The timer expires (R181). -/
def supervisionExpire (s : State) : State :=
  ({ s with supervision := { s.supervision with watch := .lost } }).raiseAll [.P, .C]
    (.supervision .lost s.supervision.timeout)

/-- The frames remaining have come to 0 at the frame mark whose FRAME_MARK has been taken. -/
def supervisionDue (s : State) : Bool := decide (s.supervision.watch = .watching 0)

/-- The frames remaining come to 0 at the coming frame mark. -/
def supervisionDueNext (s : State) : Bool :=
  s.frameOver && decide (s.supervision.watch = .watching 1) && !s.supervision.fresh

/-- SUPERVISION_EXPIRY (R181): after its FRAME_MARK, or before it (log entry 5). -/
def execSupervisionExpiry (s : State) : Answer :=
  .next (if supervisionDue s then supervisionExpire s
    else if supervisionDueNext s then supervisionExpire { s with atMark := true }
    else s)

/-! ### Status and RESTART (R192, R193) -/

/-- The frames remaining in WATCHING (R180). -/
def Watch.remaining : Watch → Option Nat
  | .watching n => some n
  | .off | .lost => none

/-- The kind of the last reset (R192). -/
def bResetKind : ResetKind → List Byte
  | .cold => bNum1 0 ++ bytesOption bPort none
  | .restart p => bNum1 1 ++ bytesOption bPort (some p)

/-- READ_STATUS (R192). -/
def takeReadStatus (p : Port) (s : State) : Answer :=
  .next (guarded s p 0x31 true fun s =>
    s.answer p 0x31 .ok
      (bNum1 s.supervision.watch.place ++ bNat s.supervision.timeout ++
        bytesOption bNat s.supervision.watch.remaining ++
        bYes s.supervisionLost ++ bYes (!s.store.corrupt.isEmpty) ++ bytesList bZone s.store.corrupt ++
        bYes s.store.vRecallFailed ++ bYes s.faultLine ++ bResetKind s.lastReset))

/-- RESTART (R193): the response, at whose end the reset event falls. -/
def takeRestart (p : Port) (s : State) : Answer :=
  .next (guarded s p 0x32 (decide (p ≠ .P)) fun s =>
    if p = .C ∧ allZones.any s.holdsV then s.answer p 0x32 .evacActive []
    else s.respond p { cmd := byteOf 0xB2, result := .ok, payload := [], restarts := true })

end Sys2Proof.Machine
end

