-- ==== Sys2Proof/Machine/Clock.lean ====
section
/-! DEFINITION. The audio clock: FRAME_MARK (R9 and the frame-mark rules of every chapter) and SAMPLE_PERIOD
(R63, R66, R96, R100, R105, R106, R107, R122, R152). -/

namespace Sys2Proof.Machine

/-! ### Events left over from the frame mark before (log entry 5) -/

/-- An event taken where it is due. -/
def takeIf (due : Bool) (f : State → State) (s : State) : State := if due then f s else s

/-- The events still due from the last frame mark are taken, in a fixed order: no event of a frame mark
waits for a later sample period or frame mark (log entry 5). -/
def settle (s : State) : State :=
  let s := allSlots.foldl (fun s n => takeIf (staleDue s n) (becomeStale n) s) s
  let s := takeIf (supervisionDue s) supervisionExpire s
  let s := takeIf (pollDue s) pollExpiry s
  let s := s.eachZone fun z s => takeIf (wakeDue z s) (wakeFinish z) s
  let s := s.eachZone fun z s => takeIf (drainDue z s) (drainFinish z) s
  let s := takeIf (changeDue s) completeHand s
  let s := takeIf (windowDue s) closeWindow s
  let s := takeIf (periodDue s) (periodEnd 0) s
  periodOpen s

/-- The ends of fades and crossfades still due, which fall before the next sample period (R100, R122). -/
def settleSamples (s : State) : State :=
  let s := s.eachZone fun z s => takeIf (crossfadeDue z s) (crossfadeFinish z) s
  s.eachZone fun z s => takeIf (s.zone z).route.fade.done (fadeFinish z) s

/-! ### The counters of a frame mark -/

/-- A count of frame marks to come lowered, unless it was started at this frame mark. -/
def InHand.tick (h : InHand) : InHand :=
  if h.fresh then { h with fresh := false } else { h with marks := h.marks - 1 }

/-- The counters of a power state lowered (R138, R139). -/
def PowerState.tick : PowerState → PowerState
  | .waking n => .waking (n - 1)
  | .draining t n => .draining t (n - 1)
  | .disabled => .disabled
  | .parked => .parked
  | .wakeWait => .wakeWait
  | .live => .live

/-- A frame mark counted by the zone power unit (R130, R138, R139). -/
def PowerUnit.tick (x : PowerUnit) : PowerUnit :=
  if x.fresh then { x with fresh := false }
  else
    { x with state := x.state.tick, framesInState := min (x.framesInState + 1) Config.frameCountMax }

/-- A frame mark counted by the supervision timer (R181). -/
def Supervision.tick (x : Supervision) : Supervision :=
  if x.fresh then { x with fresh := false }
  else match x.watch with
    | .watching n => { x with watch := .watching (n - 1) }
    | .off | .lost => x

/-- A frame mark counted by a sensor record (R79). -/
def SensorRecord.tick (r : SensorRecord) : SensorRecord :=
  if r.fresh then { r with fresh := false }
  else { r with framesSince := min (r.framesSince + 1) Config.frameCountMax }

/-- A frame mark counted by the temperature unit (R79, R81). -/
def TempUnit.tick (t : TempUnit) : TempUnit :=
  { t with
    sensors := Vector.ofFn fun n => t.sensors[n].tick,
    pollTimer := if t.pollFresh then t.pollTimer else t.pollTimer.map (· - 1),
    pollFresh := false }

/-- A phase runs, and its time with it (R163, R170). -/
def StoreState.runs : StoreState → Bool
  | .erasing | .programming | .locking => true
  | .starting | .ready | .suspending | .reading => false

/-- One millisecond of a running phase (R163, log entry 11). -/
def StoreUnit.tick (x : StoreUnit) : StoreUnit :=
  if x.state.runs then { x with op := x.op.map fun op => { op with left := op.left - 1 } } else x

/-- A frame mark counted by every counter of the part. -/
def tick (s : State) : State :=
  let s := s.eachZone fun z s => s.updPower z PowerUnit.tick
  { s with
    queue := { s.queue with hand := s.queue.hand.map InHand.tick },
    supervision := s.supervision.tick,
    temp := s.temp.tick,
    probe := s.probe.tick,
    store := s.store.tick,
    sampleIndex := 0,
    atMark := false }

/-! ### The blocks' work at a frame mark -/

/-- The gain code the route unit names for a zone: EVAC at a winner of level 6 or 7 (R127). -/
def nameFor (level : Nat) : GainName := if 6 ≤ level then .evac else .programme

/-- The naming of the gain code for an enabled zone, and the gain stage's target and ramp (R104, R105,
R127). The name of a DISABLED zone is left as it was (DESIGN CHOICE, log entry 32: R127 names it for enabled
zones). -/
def gainZone (z : Zone) (s : State) : State :=
  let s :=
    if (s.powerOf z).inService then
      s.updRoute z fun r => { r with named := nameFor (s.winnerLevel z) }
    else s
  s.updGain z fun g => g.atMark (s.active z) (s.zone z).route.named (s.powerOf z)

/-- The route unit's and the gain stage's work at a frame mark (R104, R127). -/
def gainWork (s : State) : State := s.eachZone gainZone

/-- The transmission of the amplifier control link (R141). -/
def amplifierWork (s : State) : State :=
  { s with ampSent := Vector.ofFn fun z : Zone => (s.powerOf z).enable }

/-- One piece of a frame mark's work. -/
def doWork (w : MarkWork) (s : State) : State :=
  match w with
  | .transfer => transferWork s
  | .slew => slewWork s
  | .limiter => probeTest (limiterWork s)
  | .gain => gainWork s
  | .probe => probeWork s
  | .amplifier => amplifierWork s

/-- The six pieces in the order taken where the row names none. -/
def defaultOrder : List MarkWork := [.transfer, .slew, .limiter, .gain, .probe, .amplifier]

/-- A piece joins an order it is not in. -/
def joinOrder (l : List MarkWork) (w : MarkWork) : List MarkWork := if w ∈ l then l else l ++ [w]

/-- Every piece once: the order the row names, then the pieces it leaves out (log entry 6). -/
def markOrder (order : List MarkWork) : List MarkWork := (order ++ defaultOrder).foldl joinOrder []

/-- FRAME_MARK (R9, R68, R79, R81, R104, R127, R130, R136, R138, R139, R141, R151, R181). -/
def execFrameMark (order : List MarkWork) (s : State) : Answer :=
  .next ((markOrder order).foldl (fun s w => doWork w s) (tick (settle s)))

/-! ### One sample period -/

/-- The sample of a source: its slot of the TDM input link, the probe's sample, or 0 for silence (R112). -/
def sourceSample (inputs : Vector Sample 8) (probe : Sample) : Option Source → Sample
  | none => 0#24
  | some n => if h : n.val < 8 then inputs[n.val] else probe

/-- The write and read of one zone's line in a sample period: the memory after, and the sample read (R63,
R66). -/
def lineStep (m : List MemCell) (a : Option Allocation) (l : LineState) (x : Sample) :
    List MemCell × Sample :=
  match a with
  | some a =>
    let m := memWrite m (lineAddress a l.writePos) x
    (m, lineRead m a l.writePos l.dCur)
  | none => (m, 0#24)

/-- The fade mix and the EQ of one zone in a sample period: the state after, and the EQ output (R96, R100,
R107, R122). -/
def feedZone (inputs : Vector Sample 8) (probe : Sample) (z : Zone) (s : State) : State × Sample :=
  let fade := (s.zone z).route.fade.step
  let s := s.updRoute z fun r => { r with fade := fade }
  let (eq, y, sat) := eqStep (s.zone z).eq (fade.mix (sourceSample inputs probe))
  let s := s.updEq z fun _ => eq
  (if sat then clipCount z false s else s, y)

/-- The delay line of one zone in a sample period: the state after, and the sample read (R63, R66). -/
def delayZone (z : Zone) (x : Sample) (s : State) : State × Sample :=
  let a := (s.active z).allocation
  let (m, y) := lineStep s.mem a (s.zone z).line x
  (({ s with mem := m }).updLine z fun l =>
    { l with writePos := nextPos l.writePos (lineLength a) }, y)

/-- The factor of a zone in sample period k of the frame (R105). -/
def State.factor (s : State) (z : Zone) (k : Nat) : Nat :=
  if (s.powerOf z).heard then (s.zone z).gain.factorAt k else 0

/-- The gain stage of one zone in sample period k, and its slot of the output link (R105 to R107). -/
def scaleZone (z : Zone) (k : Nat) (y : Sample) (s : State) : State :=
  let f := s.factor z k
  let v := gainProduct y f
  let s := s.updGain z fun g => { g with applied := f }
  let s := if saturates v then clipCount z true s else s
  { s with tdmOut := s.tdmOut.set z (saturate v) }

/-- One zone's chain in a sample period (R63, R66, R96, R105, R106); the output of a DISABLED zone is 0. -/
def sampleZone (inputs : Vector Sample 8) (probe : Sample) (k : Nat) (z : Zone) (s : State) : State :=
  if (s.powerOf z).inService then
    let (s, x) := feedZone inputs probe z s
    let (s, y) := delayZone z x s
    scaleZone z k y s
  else { s with tdmOut := s.tdmOut.set z 0#24 }

/-- The line of an enabled zone reaches outside delay memory (R59). -/
def outsideMemory (s : State) : Bool :=
  allZones.any fun z =>
    (s.powerOf z).inService && (s.active z).allocation.any fun a => !a.inMemory

/-- The sample period of the frame that begins: 1 to 48 (R105, log entry 19). -/
def nextIndex (s : State) : Nat := min (s.sampleIndex + 1) Config.samplesPerFrame

/-- The chains of all zones and the probe's detection in one sample period. -/
def samplePeriod (inputs : Vector Sample 8) (s : State) : State :=
  let k := nextIndex s
  let probe := probeSample s
  let s := { s with sampleIndex := k, atMark := false }
  probeListen inputs (s.eachZone (sampleZone inputs probe k))

/-- SAMPLE_PERIOD (R63, R66, R96, R100, R105 to R107, R122, R151, R152). -/
def execSamplePeriod (inputs : Vector Sample 8) (s : State) : Answer :=
  let s := settleSamples (settle s)
  if outsideMemory s then .fault .noSuchSample else .next (samplePeriod inputs s)

end Sys2Proof.Machine
end

