-- ==== Sys2Proof/Machine/Wire.lean ====
section
/-! DEFINITION. What the interface lines carry, bit by bit, as views of the state: bytes and frames of the
control links (R186, R190), slots of the audio links (00_scope section 5), the amplifier transmission
(R141) and the sensor bus (R77). Their timing is left out (log entry 13). -/

namespace Sys2Proof.Machine

/-! ### Control links (R186, R190) -/

/-- The bits of a byte on a control link: the start bit, eight data bits least significant first, and the
stop bit (R190). -/
def serialBits (b : Byte) : List Bool := false :: (List.range 8).map (fun i => b.getLsbD i) ++ [true]

/-- The bytes CHECK covers: LENGTH, then CMD and what follows it (R186). -/
def checkedBytes (body : List Byte) : List Byte := bytes2 body.length ++ body

/-- The two bytes of CHECK (R186). -/
def checkBytes (body : List Byte) : List Byte := bytes2 (crc16 (checkedBytes body)).toNat

/-- A whole frame: SYNC, LENGTH, the body and CHECK (R190). -/
def frameBytes (body : List Byte) : List Byte :=
  byteOf Config.syncByte :: (checkedBytes body ++ checkBytes body)

/-- A command frame (R190). -/
def commandFrame (f : Frame) : List Byte := frameBytes (f.cmd :: f.payload)

/-- A response frame (R190). -/
def responseFrame (r : Response) : List Byte :=
  frameBytes (r.cmd :: byteOf r.result.code :: r.payload)

/-- The response a port is being sent, as bytes on its line; none while the transmitter is idle (R188). -/
def State.txBytes (s : State) (p : Port) : List Byte :=
  match (s.port p).link.tx with
  | some r => responseFrame r
  | none => []

/-- The level of the line of an idle transmitter, P_TX, V_TX or C_TX: high (R194). -/
def serialRest : Bool := true

/-- The successive levels of a transmitter's line as it sends some bytes from rest, high for true; the stop bit of the
last leaves it at rest (R190, R194). -/
def serialLevels (bytes : List Byte) : List Bool := serialRest :: bytes.flatMap serialBits

/-- The levels of a port's transmit line by the level of RESET_N, high for true: those of its response, or the level of
rest of an idle transmitter; while RESET_N is low the line is held high (R194). -/
def State.txLevels (s : State) (resetN : Bool) (p : Port) : List Bool :=
  if resetN then serialLevels (s.txBytes p) else [serialRest]

/-- The levels of a port's transmit line as a reset stops its response after the byte in flight, numbered n
from 0 (R194). How many bytes have gone is timing (log entry 13). -/
def State.txCutLevels (s : State) (n : Nat) (p : Port) : List Bool := serialLevels ((s.txBytes p).take (n + 1))

/-- The bytes on a link's receive line that the receiver takes, each with a BYTE_RECEIVED row: none while RESET_N is
low (R194, log entry 14). -/
def bytesHeard (resetN : Bool) (bytes : List Byte) : List Byte := if resetN then bytes else []

/-! ### Audio links (00_scope section 5) -/

/-- The 32 bits of an output slot: the sample most significant bit first, then eight zeros. -/
def slotBits (x : Sample) : List Bool :=
  ((List.range 24).map fun i => x.getMsbD i) ++ List.replicate 8 false

/-- The sample of an input slot: its first 24 bits, most significant first. -/
def slotSample (bits : List Bool) : Sample :=
  (bits.take 24).foldl (fun x b => (x <<< 1) ||| (if b then 1#24 else 0#24)) 0#24

/-- One sample period of TDM_OUT0 (zones Z0 to Z15) or TDM_OUT1 (zones Z16 to Z31). -/
def State.tdmBits (s : State) (second : Bool) : List Bool :=
  ((allZones.filter fun z => decide (16 ≤ z.val) == second).map fun z => s.tdmOut[z]).flatMap slotBits

/-! ### Levels of a clock line and its data line -/

/-- The levels of a clock line and its data line, high for true. -/
structure LineLevels where
  /-- The clock line: AMP_CK or SNS_CK. -/
  clock : Bool
  /-- The data line: AMP_DO or SNS_DA. -/
  data : Bool
  deriving DecidableEq, Repr

/-! ### Amplifier control link (R141) -/

/-- The 32 bits of the last transmission, Z0 first, high for on. -/
def State.ampBits (s : State) : List Bool := s.ampSent.toList

/-- The lines between transmissions: AMP_CK high and AMP_DO low (R141). -/
def ampRest : LineLevels := { clock := true, data := false }

/-- One period of AMP_CK: AMP_DO takes its level while AMP_CK is low and keeps it through the rising edge (R141). -/
def ampPeriod (on : Bool) : List LineLevels := [{ clock := false, data := on }, { clock := true, data := on }]

/-- The successive levels of the lines about the last transmission: at rest, one period for each zone, at rest
(R141; when AMP_DO falls after a last bit that is high is a DESIGN CHOICE, log entry 13). -/
def State.ampLines (s : State) : List LineLevels := ampRest :: (s.ampBits.flatMap ampPeriod ++ [ampRest])

/-- What the racks read: the level of AMP_DO at each rising edge of AMP_CK (R141). -/
def ampRead : List LineLevels → List Bool
  | before :: after :: later =>
    if before.clock = false ∧ after.clock = true then after.data :: ampRead (after :: later)
    else ampRead (after :: later)
  | [_] | [] => []

/-! ### Sensor bus (R77, R78) -/

/-- Who drives the line SNS_DA in a phase (R77). -/
inductive BusDriver where
  | part | sensor
  deriving DecidableEq, Repr

/-- The phases of a sensor transaction (R77). -/
inductive BusPhase where
  | start | address | addressAcknowledge | firstByte | acknowledge | secondByte | noAcknowledge | stop
  deriving DecidableEq, Repr

/-- The phases in the order in which a transaction that is answered passes through them (R77). -/
def busPhases : List BusPhase :=
  [.start, .address, .addressAcknowledge, .firstByte, .acknowledge, .secondByte, .noAcknowledge, .stop]

/-- Who drives each phase (R77). -/
def BusPhase.driver : BusPhase → BusDriver
  | .start | .address | .acknowledge | .noAcknowledge | .stop => .part
  | .addressAcknowledge | .firstByte | .secondByte => .sensor

/-- The bits of the address phase: the 7-bit address most significant bit first, then a read indicator of 1
(R77). -/
def addressBits (address : Nat) : List Bool :=
  ((List.range 7).map fun i => (BitVec.ofNat 7 address).getMsbD i) ++ [true]

/-- The bits of a data byte, most significant first (R77). -/
def dataBits (b : Byte) : List Bool := (List.range 8).map fun i => b.getMsbD i

/-- The level of SNS_DA in each bit period of a phase, high for true, in a transaction that reads a value: the
line falls at the start and rises at the stop (`busStart`, `busStop`), the sensor holds it low at the address
acknowledge, and the part holds it low after the first data byte and leaves it high after the second (R77). -/
def BusPhase.levels (address : Nat) (value : BitVec 16) : BusPhase → List Bool
  | .start => [false]
  | .address => addressBits address
  | .addressAcknowledge => [false]
  | .firstByte => dataBits (value.extractLsb' 8 8)
  | .acknowledge => [false]
  | .secondByte => dataBits (value.extractLsb' 0 8)
  | .noAcknowledge => [true]
  | .stop => [true]

/-- The start: SNS_DA falls while SNS_CK is high (R77). -/
def busStart : List LineLevels := [{ clock := true, data := true }, { clock := true, data := false }]

/-- The stop: SNS_DA rises while SNS_CK is high (R77). -/
def busStop : List LineLevels := [{ clock := true, data := false }, { clock := true, data := true }]

/-- The phases a transaction passes through by what the bus did: all of them; without an address acknowledge a
stop after it; with a stuck clock an end at some phase without a stop, so the phases are not told (R77,
R78). -/
def phasesOf : BusOutcome → List BusPhase
  | .value _ => busPhases
  | .noAcknowledge => [.start, .address, .addressAcknowledge, .stop]
  | .stuck => []

/-- The phases the part drives, in order, with the levels it gives them (R77). -/
def partDrives (address : Nat) (bus : BusOutcome) : List (BusPhase × List Bool) :=
  ((phasesOf bus).filter fun x => decide (x.driver = .part)).map fun x => (x, x.levels address 0#16)

/-- The address of the transaction in flight: the one its slot's record held when its turn came (R77, R81). -/
def State.busAddress (s : State) : Option Nat := s.temp.round.map (·.address)

/-- The value of the two data bytes, the upper byte first (R77). -/
def busValue (upper lower : Byte) : BusOutcome := .value (upper ++ lower)

end Sys2Proof.Machine
end

