-- ==== Sys2Proof/Machine/Links.lean ====
section
/-! DEFINITION. Sections 11.4 and 11.5: the control links. Receivers and discarded frames (R186, R187), the
buffer and the taking of a frame as a command (R188, R189), and RESPONSE_SENT with the RESTART event
(R193). -/

namespace Sys2Proof.Machine

/-! ### Commands from frames (R188, R189) -/

/-- The meaning of a command of the table of R189; the rows that are no command of that table do nothing
here. -/
def runCommand (i : Instr) (s : State) : Answer :=
  match i with
  | .readRecord p z c => takeReadRecord p z c s
  | .gain p z g m => takeGain p z g m s
  | .eqSelect p z k => takeEqSelect p z k s
  | .eqBank p z b l => takeEqBank p z b l s
  | .geometry p z g => takeGeometry p z g s
  | .coupling p z k => takeCoupling p z k s
  | .timing p z t => takeTiming p z t s
  | .evacGain p z g => takeEvacGain p z g s
  | .readQueue p => takeReadQueue p s
  | .readTargets p l => takeReadTargets p l s
  | .allocate p z a => takeAllocate p z a s
  | .readDelayMap p => takeReadDelayMap p s
  | .sensorSetup p n e a => takeSensorSetup p n e a s
  | .sensorManual p n v => takeSensorManual p n v s
  | .sensorAuto p n => takeSensorAuto p n s
  | .readSensors p => takeReadSensors p s
  | .clearClip p l => takeClearClip p l s
  | .readChain p l => takeReadChain p l s
  | .routeRaise p l src lvl => takeRouteRaise p l src lvl s
  | .routeDrop p l src => takeRouteDrop p l src s
  | .routeDropAll p => takeRouteDropAll p s
  | .readRoutes p l => takeReadRoutes p l s
  | .enableZone p z => takeEnableZone p z s
  | .disableZone p z => takeDisableZone p z s
  | .readPower p l => takeReadPower p l s
  | .probeSetup p a => takeProbeSetup p a s
  | .probeRun p t => takeProbeRun p t s
  | .probeStop p => takeProbeStop p s
  | .probeClear p => takeProbeClear p s
  | .probeAdopt p z => takeProbeAdopt p z s
  | .readProbe p => takeReadProbe p s
  | .eraseSector p n => takeEraseSector p n s
  | .storeZone p z => takeStoreZone p z s
  | .storeScene p n => takeStoreScene p n s
  | .storeSystem p => takeStoreSystem p s
  | .lockZone p z => takeLockZone p z s
  | .recallScene p n => takeRecallScene p n s
  | .clearStoreFaults p => takeClearStoreFaults p s
  | .overrideLocks p => takeOverrideLocks p s
  | .lowerOverride p => takeLowerOverride p s
  | .readStore p => takeReadStore p s
  | .setSystem p a => takeSetSystem p a s
  | .readSystem p => takeReadSystem p s
  | .noteSetup p k e l => takeNoteSetup p k e l s
  | .noteRead p => takeNoteRead p s
  | .noteClear p l => takeNoteClear p l s
  | .supervise p t => takeSupervise p t s
  | .superviseEnd p => takeSuperviseEnd p s
  | .readStatus p => takeReadStatus p s
  | .restart p => takeRestart p s
  | .coldReset | .startupDone | .frameMark _ | .samplePeriod _ | .changeComplete
  | .wakeTimeElapsed _ | .drainTimeElapsed _ | .fadeEnd _ | .crossfadeEnd _
  | .supervisionExpiry | .pollTimerExpiry | .sensorTransactionEnd _ | .sensorStale _
  | .trigEdge _ | .periodOpen | .windowClose | .periodEnd | .eraseComplete _
  | .programComplete _ | .lockComplete _ | .suspensionEvent | .sceneReadEnd _
  | .frameReceived _ | .linkGap _ | .responseSent _ | .unknownCommand _ _
  | .byteReceived _ _ _ => .next s

/-- The answer to a CMD that names no command: UNKNOWN_COMMAND at all times, with the received CMD byte, its
top bit set (R189). -/
def answerUnknown (p : Port) (cmd : Byte) (s : State) : State :=
  s.respond p { cmd := cmd ||| 0x80#8, result := .unknownCommand, payload := [], restarts := false }

/-- A write command of the store, by its code (R162). -/
def isWriteCode (code : Nat) : Bool := decide (0x20 ≤ code ∧ code ≤ 0x24)

/-- The ports that may issue a command, by its code, where no value of its payload decides (R189); of
RECALL_SCENE and STORE_SCENE, whose values decide, every port (R164, R169). -/
def portMay (s : State) (p : Port) (code : Nat) : Bool :=
  if code ∈ [0x02, 0x03, 0x11] then decide (p ≠ .V)
  else if code ∈ [0x04, 0x05, 0x06, 0x07, 0x0B, 0x0D, 0x0E, 0x0F, 0x17, 0x18, 0x1A, 0x1B, 0x1C, 0x1D,
      0x1E, 0x20, 0x21, 0x23, 0x24, 0x27, 0x28, 0x2A] then decide (p = .C)
  else if code ∈ [0x08, 0x2F, 0x30] then decide (p = .V)
  else if code = 0x32 then decide (p ≠ .P)
  else if code = 0x26 then mayClearFaults p s.store.fault
  else true

/-- The answer to a frame whose payload does not hold its command's parameters: the checks before step 4,
then BAD_VALUE; a refused write command lowers the override (R164, R189). -/
def answerMalformed (p : Port) (cmd : Byte) (s : State) : State :=
  let r : Result :=
    if s.starting then .starting else if portMay s p cmd.toNat then .badValue else .notPermitted
  let s := if isWriteCode cmd.toNat then lowerOverride s else s
  s.answer p cmd.toNat r []

/-- The frame carried out at its command event (R188, R189). -/
def carryOut (p : Port) (f : Frame) (s : State) : Answer :=
  match decodeCommand p f.cmd f.payload with
  | .unknown => .next (answerUnknown p f.cmd s)
  | .malformed => .next (answerMalformed p f.cmd s)
  | .command i => runCommand i s

/-- The oldest buffered frame is taken as a command where the transmitter is idle (R188). -/
def takeFrame (p : Port) (s : State) : Answer :=
  let l := (s.port p).link
  match l.tx, l.buffer with
  | none, f :: rest => carryOut p f (s.updLink p fun l => { l with buffer := rest })
  | _, _ => .next s

/-! ### The receiver (R186, R187) -/

/-- The receiver of a link moved to a framing state. -/
def setRx (p : Port) (r : Receiver) (s : State) : State := s.updLink p fun l => { l with rx := r }

/-- A frame is discarded: HUNT, and LINK_ERROR with its cause (R187). -/
def discard (p : Port) (c : LinkCause) (s : State) : State :=
  (setRx p .hunt s).raise p (.linkError c)

/-- The number two bytes form, most significant first. -/
def wordOf (l : List Byte) : Nat := l.foldl (fun n b => n * 256 + b.toNat) 0

/-- A byte added to LENGTH (R186). -/
def lengthByte (p : Port) (got : List Byte) (s : State) : State :=
  if got.length < 2 then setRx p (.length got) s
  else if 1 ≤ wordOf got ∧ wordOf got ≤ Config.lengthMax then setRx p (.body (wordOf got) []) s
  else discard p .length s

/-- A byte added to the body (R186). -/
def bodyByte (p : Port) (len : Nat) (got : List Byte) (s : State) : State :=
  setRx p (if got.length < len then .body len got else .check got []) s

/-- A byte added to CHECK (R186). -/
def checkByte (p : Port) (body got : List Byte) (s : State) : State :=
  setRx p (if got.length < 2 then .check body got else .whole body got) s

/-- A frame whose CHECK matches, as its CMD and PAYLOAD (R186). -/
def matchedFrame (body check : List Byte) : Option Frame :=
  match body with
  | cmd :: payload => if checkBytes body = check then some { cmd := cmd, payload := payload } else none
  | [] => none

/-- A completed frame placed in the buffer and taken where the transmitter is idle, or discarded with
OVERRUN (R186 to R188). -/
def placeFrame (p : Port) (f : Frame) (s : State) : Answer :=
  if (s.port p).link.buffer.length < Config.bufferPlaces then
    takeFrame p (s.updLink p fun l => { l with rx := .hunt, buffer := l.buffer ++ [f] })
  else .next (discard p .overrun s)

/-- The receiver judges the frame whose last byte has arrived (R186, R187). -/
def judgeFrame (p : Port) (s : State) : Answer :=
  match (s.port p).link.rx with
  | .whole body check =>
    match matchedFrame body check with
    | some f => placeFrame p f s
    | none => .next (discard p .check s)
  | .hunt | .length _ | .body _ _ | .check _ _ => .next s

/-- FRAME_RECEIVED (R186 to R188); a receiver without a whole frame has nothing to judge (log entry 4). -/
def execFrameReceived (p : Port) (s : State) : Answer := judgeFrame p s

/-- A byte read by the receiver (R186, R187). -/
def readLinkByte (p : Port) (b : Byte) (stopHigh : Bool) (s : State) : State :=
  match (s.port p).link.rx with
  | .hunt => if stopHigh ∧ b.toNat = Config.syncByte then setRx p (.length []) s else s
  | .length got => if stopHigh then lengthByte p (got ++ [b]) s else discard p .framing s
  | .body len got => if stopHigh then bodyByte p len (got ++ [b]) s else discard p .framing s
  | .check body got => if stopHigh then checkByte p body (got ++ [b]) s else discard p .framing s
  | .whole _ _ => s

/-- BYTE_RECEIVED (R186, R187). A whole frame that has not been judged yet is judged first (log entry 4). -/
def execByteReceived (p : Port) (byte : Byte) (stopHigh : Bool) (s : State) : Answer :=
  andThen (judgeFrame p s) fun s => .next (readLinkByte p byte stopHigh s)

/-- LINK_GAP (R187): more than 2 ms since the last byte, from SYNC to the last byte of CHECK. -/
def execLinkGap (p : Port) (s : State) : Answer :=
  .next (match (s.port p).link.rx with
    | .hunt | .whole _ _ => s
    | .length _ | .body _ _ | .check _ _ => discard p .gap s)

/-! ### The transmitter (R188, R193) -/

/-- RESPONSE_SENT (R188, R193): the transmitter idle and the next frame taken, or the RESTART event; with no
response being sent nothing ends. -/
def execResponseSent (p : Port) (s : State) : Answer :=
  match (s.port p).link.tx with
  | none => .next s
  | some r =>
    if r.restarts then .next (restartEvent p s)
    else takeFrame p (s.updLink p fun l => { l with tx := none })

end Sys2Proof.Machine
end

