-- ==== Sys2Proof/Machine/Rows.lean ====
section
/-! DEFINITION. The rows of the commands of the links. A row of a command tells that its command event happens, and
R188 lets that be only while the transmitter of its port is idle: a response still being sent ends first, with
all that its end brings (log entry 3). -/

namespace Sys2Proof.Machine

/-- The ends of the responses of a link, one after another until its transmitter is idle, at most n: each takes the
oldest buffered frame, whose response is then sent, or is a RESTART's reset event (R188, R193). -/
def endResponses (p : Port) : Nat → State → Answer
  | 0, s => .next s
  | n + 1, s =>
    match (s.port p).link.tx with
    | none => .next s
    | some _ => andThen (execResponseSent p s) (endResponses p n)

/-- A command carried out when its port's turn comes: after the response being sent and those of the frames
buffered behind it (R188). -/
def atTurn (p : Port) (f : State → Answer) (s : State) : Answer :=
  andThen (endResponses p ((s.port p).link.buffer.length + 1) s) f

/-- UNKNOWN_COMMAND as a row (R188, R189); a CMD that names a command is not this row's (log entry 23). -/
def execUnknownCommand (p : Port) (cmd : Byte) (s : State) : Answer :=
  if namesCommand cmd then .next s else atTurn p (fun s => .next (answerUnknown p cmd s)) s

/-- READ_RECORD as a row (R14, R188). -/
def execReadRecord (p : Port) (zone : Nat) (copy : Choice) (s : State) : Answer :=
  atTurn p (takeReadRecord p zone copy) s

/-- GAIN as a row (R19, R20, R21, R188). -/
def execGain (p : Port) (zone : ZoneSel) (code : Int) (mute : Choice) (s : State) : Answer :=
  atTurn p (takeGain p zone code mute) s

/-- EQ_SELECT as a row (R19, R20, R188). -/
def execEqSelect (p : Port) (zone : ZoneSel) (select : Nat) (s : State) : Answer :=
  atTurn p (takeEqSelect p zone select) s

/-- EQ_BANK as a row (R19, R20, R22, R188). -/
def execEqBank (p : Port) (zone : ZoneSel) (bank : Nat) (sections : List SectionArg) (s : State) : Answer :=
  atTurn p (takeEqBank p zone bank sections) s

/-- GEOMETRY as a row (R19 to R22, R188). -/
def execGeometry (p : Port) (zone : ZoneSel) (values : GeometryArg) (s : State) : Answer :=
  atTurn p (takeGeometry p zone values) s

/-- COUPLING as a row (R19 to R22, R188). -/
def execCoupling (p : Port) (zone : ZoneSel) (value : Option CouplingArg) (s : State) : Answer :=
  atTurn p (takeCoupling p zone value) s

/-- TIMING as a row (R19 to R21, R188). -/
def execTiming (p : Port) (zone : ZoneSel) (values : TimingArg) (s : State) : Answer :=
  atTurn p (takeTiming p zone values) s

/-- EVAC_GAIN as a row (R19 to R21, R188). -/
def execEvacGain (p : Port) (zone : ZoneSel) (code : Int) (s : State) : Answer :=
  atTurn p (takeEvacGain p zone code) s

/-- READ_QUEUE as a row (R34, R188). -/
def execReadQueue (p : Port) (s : State) : Answer :=
  atTurn p (takeReadQueue p) s

/-- READ_TARGETS as a row (R56, R188). -/
def execReadTargets (p : Port) (zones : List Nat) (s : State) : Answer :=
  atTurn p (takeReadTargets p zones) s

/-- ALLOCATE as a row (R61, R62, R188). -/
def execAllocate (p : Port) (zone : Nat) (allocation : Option AllocArg) (s : State) : Answer :=
  atTurn p (takeAllocate p zone allocation) s

/-- READ_DELAY_MAP as a row (R73, R188). -/
def execReadDelayMap (p : Port) (s : State) : Answer :=
  atTurn p (takeReadDelayMap p) s

/-- SENSOR_SETUP as a row (R87, R188). -/
def execSensorSetup (p : Port) (slot : Nat) (enabled : Choice) (address : Nat) (s : State) : Answer :=
  atTurn p (takeSensorSetup p slot enabled address) s

/-- SENSOR_MANUAL as a row (R88, R188). -/
def execSensorManual (p : Port) (slot : Nat) (value : Int) (s : State) : Answer :=
  atTurn p (takeSensorManual p slot value) s

/-- SENSOR_AUTO as a row (R89, R188). -/
def execSensorAuto (p : Port) (slot : Nat) (s : State) : Answer :=
  atTurn p (takeSensorAuto p slot) s

/-- READ_SENSORS as a row (R90, R188). -/
def execReadSensors (p : Port) (s : State) : Answer :=
  atTurn p (takeReadSensors p) s

/-- CLEAR_CLIP as a row (R108, R188). -/
def execClearClip (p : Port) (zones : List Nat) (s : State) : Answer :=
  atTurn p (takeClearClip p zones) s

/-- READ_CHAIN as a row (R109, R188). -/
def execReadChain (p : Port) (zones : List Nat) (s : State) : Answer :=
  atTurn p (takeReadChain p zones) s

/-- ROUTE_RAISE as a row (R113 to R115, R188). -/
def execRouteRaise (p : Port) (zones : List Nat) (source level : Nat) (s : State) : Answer :=
  atTurn p (takeRouteRaise p zones source level) s

/-- ROUTE_DROP as a row (R116, R188). -/
def execRouteDrop (p : Port) (zones : List Nat) (source : Nat) (s : State) : Answer :=
  atTurn p (takeRouteDrop p zones source) s

/-- ROUTE_DROP_ALL as a row (R117, R188). -/
def execRouteDropAll (p : Port) (s : State) : Answer :=
  atTurn p (takeRouteDropAll p) s

/-- READ_ROUTES as a row (R128, R188). -/
def execReadRoutes (p : Port) (zones : List Nat) (s : State) : Answer :=
  atTurn p (takeReadRoutes p zones) s

/-- ENABLE_ZONE as a row (R131, R188). -/
def execEnableZone (p : Port) (zone : Nat) (s : State) : Answer :=
  atTurn p (takeEnableZone p zone) s

/-- DISABLE_ZONE as a row (R132, R188). -/
def execDisableZone (p : Port) (zone : Nat) (s : State) : Answer :=
  atTurn p (takeDisableZone p zone) s

/-- READ_POWER as a row (R142, R188). -/
def execReadPower (p : Port) (zones : List Nat) (s : State) : Answer :=
  atTurn p (takeReadPower p zones) s

/-- PROBE_SETUP as a row (R146, R188). -/
def execProbeSetup (p : Port) (values : ProbeArg) (s : State) : Answer :=
  atTurn p (takeProbeSetup p values) s

/-- PROBE_RUN as a row (R148, R188). -/
def execProbeRun (p : Port) (trigger : Option Choice) (s : State) : Answer :=
  atTurn p (takeProbeRun p trigger) s

/-- PROBE_STOP as a row (R157, R188). -/
def execProbeStop (p : Port) (s : State) : Answer :=
  atTurn p (takeProbeStop p) s

/-- PROBE_CLEAR as a row (R157, R188). -/
def execProbeClear (p : Port) (s : State) : Answer :=
  atTurn p (takeProbeClear p) s

/-- PROBE_ADOPT as a row (R159, R188). -/
def execProbeAdopt (p : Port) (zone : Nat) (s : State) : Answer :=
  atTurn p (takeProbeAdopt p zone) s

/-- READ_PROBE as a row (R158, R188). -/
def execReadProbe (p : Port) (s : State) : Answer :=
  atTurn p (takeReadProbe p) s

/-- ERASE_SECTOR as a row (R162, R164, R188). -/
def execEraseSector (p : Port) (sector : Nat) (s : State) : Answer :=
  atTurn p (takeEraseSector p sector) s

/-- STORE_ZONE as a row (R162, R164, R188). -/
def execStoreZone (p : Port) (zone : Nat) (s : State) : Answer :=
  atTurn p (takeStoreZone p zone) s

/-- STORE_SCENE as a row (R162, R164, R188). -/
def execStoreScene (p : Port) (scene : Nat) (s : State) : Answer :=
  atTurn p (takeStoreScene p scene) s

/-- STORE_SYSTEM as a row (R162, R164, R188). -/
def execStoreSystem (p : Port) (s : State) : Answer :=
  atTurn p (takeStoreSystem p) s

/-- LOCK_ZONE as a row (R162, R164, R188). -/
def execLockZone (p : Port) (zone : Nat) (s : State) : Answer :=
  atTurn p (takeLockZone p zone) s

/-- RECALL_SCENE as a row (R169, R170, R172, R188). -/
def execRecallScene (p : Port) (scene : Nat) (s : State) : Answer :=
  atTurn p (takeRecallScene p scene) s

/-- CLEAR_STORE_FAULTS as a row (R167, R188). -/
def execClearStoreFaults (p : Port) (s : State) : Answer :=
  atTurn p (takeClearStoreFaults p) s

/-- OVERRIDE_LOCKS as a row (R168, R188). -/
def execOverrideLocks (p : Port) (s : State) : Answer :=
  atTurn p (takeOverrideLocks p) s

/-- LOWER_OVERRIDE as a row (R168, R188). -/
def execLowerOverride (p : Port) (s : State) : Answer :=
  atTurn p (takeLowerOverride p) s

/-- READ_STORE as a row (R173, R188). -/
def execReadStore (p : Port) (s : State) : Answer :=
  atTurn p (takeReadStore p) s

/-- SET_SYSTEM as a row (R191, R188). -/
def execSetSystem (p : Port) (values : SystemArg) (s : State) : Answer :=
  atTurn p (takeSetSystem p values) s

/-- READ_SYSTEM as a row (R191, R188). -/
def execReadSystem (p : Port) (s : State) : Answer :=
  atTurn p (takeReadSystem p) s

/-- NOTE_SETUP as a row (R184, R188). -/
def execNoteSetup (p : Port) (kind : Nat) (enable : Choice) (level : Int) (s : State) : Answer :=
  atTurn p (takeNoteSetup p kind enable level) s

/-- NOTE_READ as a row (R183, R188). -/
def execNoteRead (p : Port) (s : State) : Answer :=
  atTurn p (takeNoteRead p) s

/-- NOTE_CLEAR as a row (R185, R188). -/
def execNoteClear (p : Port) (kinds : List Nat) (s : State) : Answer :=
  atTurn p (takeNoteClear p kinds) s

/-- SUPERVISE as a row (R180, R188). -/
def execSupervise (p : Port) (timeout : Int) (s : State) : Answer :=
  atTurn p (takeSupervise p timeout) s

/-- SUPERVISE_END as a row (R181, R188). -/
def execSuperviseEnd (p : Port) (s : State) : Answer :=
  atTurn p (takeSuperviseEnd p) s

/-- READ_STATUS as a row (R192, R188). -/
def execReadStatus (p : Port) (s : State) : Answer :=
  atTurn p (takeReadStatus p) s

/-- RESTART as a row (R193, R188). -/
def execRestart (p : Port) (s : State) : Answer :=
  atTurn p (takeRestart p) s

end Sys2Proof.Machine
end

