-- ==== Sys2Proof/Machine/Dispatch.lean ====
section
/-! DEFINITION. The dispatch: one arm per constructor of `Instr`, one row of spec/opcode_table.json each. -/

namespace Sys2Proof.Machine

/-- The meaning of a command (spec/opcode_table.json). -/
def exec (i : Instr) (s : State) : Host.Outcome State Fault Refusal :=
  match i with
  | .coldReset => Sys2Proof.Machine.execColdReset s
  | .startupDone => Sys2Proof.Machine.execStartupDone s
  | .frameMark order => Sys2Proof.Machine.execFrameMark order s
  | .samplePeriod inputs => Sys2Proof.Machine.execSamplePeriod inputs s
  | .changeComplete => Sys2Proof.Machine.execChangeComplete s
  | .wakeTimeElapsed z => Sys2Proof.Machine.execWakeTimeElapsed z s
  | .drainTimeElapsed z => Sys2Proof.Machine.execDrainTimeElapsed z s
  | .fadeEnd z => Sys2Proof.Machine.execFadeEnd z s
  | .crossfadeEnd z => Sys2Proof.Machine.execCrossfadeEnd z s
  | .supervisionExpiry => Sys2Proof.Machine.execSupervisionExpiry s
  | .pollTimerExpiry => Sys2Proof.Machine.execPollTimerExpiry s
  | .sensorTransactionEnd bus => Sys2Proof.Machine.execSensorTransactionEnd bus s
  | .sensorStale slot => Sys2Proof.Machine.execSensorStale slot s
  | .trigEdge edge => Sys2Proof.Machine.execTrigEdge edge s
  | .periodOpen => Sys2Proof.Machine.execPeriodOpen s
  | .windowClose => Sys2Proof.Machine.execWindowClose s
  | .periodEnd => Sys2Proof.Machine.execPeriodEnd s
  | .eraseComplete pass => Sys2Proof.Machine.execEraseComplete pass s
  | .programComplete pass => Sys2Proof.Machine.execProgramComplete pass s
  | .lockComplete pass => Sys2Proof.Machine.execLockComplete pass s
  | .suspensionEvent => Sys2Proof.Machine.execSuspensionEvent s
  | .sceneReadEnd sound => Sys2Proof.Machine.execSceneReadEnd sound s
  | .frameReceived p => Sys2Proof.Machine.execFrameReceived p s
  | .linkGap p => Sys2Proof.Machine.execLinkGap p s
  | .responseSent p => Sys2Proof.Machine.execResponseSent p s
  | .unknownCommand p cmd => Sys2Proof.Machine.execUnknownCommand p cmd s
  | .readRecord p zone copy => Sys2Proof.Machine.execReadRecord p zone copy s
  | .gain p zone code mute => Sys2Proof.Machine.execGain p zone code mute s
  | .eqSelect p zone select => Sys2Proof.Machine.execEqSelect p zone select s
  | .eqBank p zone bank sections => Sys2Proof.Machine.execEqBank p zone bank sections s
  | .geometry p zone values => Sys2Proof.Machine.execGeometry p zone values s
  | .coupling p zone value => Sys2Proof.Machine.execCoupling p zone value s
  | .timing p zone values => Sys2Proof.Machine.execTiming p zone values s
  | .evacGain p zone code => Sys2Proof.Machine.execEvacGain p zone code s
  | .readQueue p => Sys2Proof.Machine.execReadQueue p s
  | .readTargets p zones => Sys2Proof.Machine.execReadTargets p zones s
  | .allocate p zone allocation => Sys2Proof.Machine.execAllocate p zone allocation s
  | .readDelayMap p => Sys2Proof.Machine.execReadDelayMap p s
  | .sensorSetup p slot enabled address => Sys2Proof.Machine.execSensorSetup p slot enabled address s
  | .sensorManual p slot value => Sys2Proof.Machine.execSensorManual p slot value s
  | .sensorAuto p slot => Sys2Proof.Machine.execSensorAuto p slot s
  | .readSensors p => Sys2Proof.Machine.execReadSensors p s
  | .clearClip p zones => Sys2Proof.Machine.execClearClip p zones s
  | .readChain p zones => Sys2Proof.Machine.execReadChain p zones s
  | .routeRaise p zones source level => Sys2Proof.Machine.execRouteRaise p zones source level s
  | .routeDrop p zones source => Sys2Proof.Machine.execRouteDrop p zones source s
  | .routeDropAll p => Sys2Proof.Machine.execRouteDropAll p s
  | .readRoutes p zones => Sys2Proof.Machine.execReadRoutes p zones s
  | .enableZone p zone => Sys2Proof.Machine.execEnableZone p zone s
  | .disableZone p zone => Sys2Proof.Machine.execDisableZone p zone s
  | .readPower p zones => Sys2Proof.Machine.execReadPower p zones s
  | .probeSetup p values => Sys2Proof.Machine.execProbeSetup p values s
  | .probeRun p trigger => Sys2Proof.Machine.execProbeRun p trigger s
  | .probeStop p => Sys2Proof.Machine.execProbeStop p s
  | .probeClear p => Sys2Proof.Machine.execProbeClear p s
  | .probeAdopt p zone => Sys2Proof.Machine.execProbeAdopt p zone s
  | .readProbe p => Sys2Proof.Machine.execReadProbe p s
  | .eraseSector p sector => Sys2Proof.Machine.execEraseSector p sector s
  | .storeZone p zone => Sys2Proof.Machine.execStoreZone p zone s
  | .storeScene p scene => Sys2Proof.Machine.execStoreScene p scene s
  | .storeSystem p => Sys2Proof.Machine.execStoreSystem p s
  | .lockZone p zone => Sys2Proof.Machine.execLockZone p zone s
  | .recallScene p scene => Sys2Proof.Machine.execRecallScene p scene s
  | .clearStoreFaults p => Sys2Proof.Machine.execClearStoreFaults p s
  | .overrideLocks p => Sys2Proof.Machine.execOverrideLocks p s
  | .lowerOverride p => Sys2Proof.Machine.execLowerOverride p s
  | .readStore p => Sys2Proof.Machine.execReadStore p s
  | .setSystem p values => Sys2Proof.Machine.execSetSystem p values s
  | .readSystem p => Sys2Proof.Machine.execReadSystem p s
  | .noteSetup p kind enable level => Sys2Proof.Machine.execNoteSetup p kind enable level s
  | .noteRead p => Sys2Proof.Machine.execNoteRead p s
  | .noteClear p kinds => Sys2Proof.Machine.execNoteClear p kinds s
  | .supervise p timeout => Sys2Proof.Machine.execSupervise p timeout s
  | .superviseEnd p => Sys2Proof.Machine.execSuperviseEnd p s
  | .readStatus p => Sys2Proof.Machine.execReadStatus p s
  | .restart p => Sys2Proof.Machine.execRestart p s
  | .byteReceived p byte stopHigh => Sys2Proof.Machine.execByteReceived p byte stopHigh s

end Sys2Proof.Machine
end

