-- ==== Sys2Proof/Machine/Step.lean ====
section
/-! DEFINITION. The step: the command at the front of the queue is taken and carried out on the state with
the queue's rest; with nothing waiting the block idles (log entry 2). -/

namespace Sys2Proof.Machine

/-- The state with the command a table word spells put at the front of the queue; the table gives no row any
bits, so no word spells one and the state is unchanged (log entry 22). -/
def State.withFetchWord (s : State) (nbits w : Nat) : State :=
  match decodeTableWord nbits w with
  | some i => { s with pending := i :: s.pending }
  | none => s

/-- One step of the block. -/
def step (s : State) : Host.Outcome State Fault Refusal :=
  match s.pending with
  | i :: rest => exec i { s with pending := rest }
  | [] => .next s

end Sys2Proof.Machine
end

