-- ==== Sys2Proof/Safety.lean ====
section
/-! DEFINITION. What counts as a safe run, in the terms the statements use: the invariants the manual states
for the whole part, each over all states; when a step answers; and the change a change command asks
for. -/

namespace Sys2Proof.Machine

/-! ### Steps -/

/-- A step answers a next state. -/
def Answers (o : Answer) : Prop := ∃ t, o = .next t

/-- A property that every step keeps. -/
def Kept (inv : State → Prop) : Prop := ∀ s t, inv s → step s = .next t → inv t

/-! ### What a command leaves unchanged -/

/-- The parts of the state a frame names: the fields of `State`, with the seven parts of every zone in place
of `zones`. -/
inductive Part where
  | pending | entry | target | line | eq | gain | route | power | queue | mem | eqWait | history | temp
  | settings | probe | store | ports | supervision | lastReset | sampleIndex | atMark | tdmOut | ampSent
  deriving DecidableEq, Repr

/-- A part is the same in two states; a part of the zones, in every zone. -/
def Part.same (s t : State) : Part → Prop
  | .pending => s.pending = t.pending
  | .entry => ∀ z, (s.zone z).entry = (t.zone z).entry
  | .target => ∀ z, (s.zone z).target = (t.zone z).target
  | .line => ∀ z, (s.zone z).line = (t.zone z).line
  | .eq => ∀ z, (s.zone z).eq = (t.zone z).eq
  | .gain => ∀ z, (s.zone z).gain = (t.zone z).gain
  | .route => ∀ z, (s.zone z).route = (t.zone z).route
  | .power => ∀ z, (s.zone z).power = (t.zone z).power
  | .queue => s.queue = t.queue
  | .mem => s.mem = t.mem
  | .eqWait => s.eqWait = t.eqWait
  | .history => s.history = t.history
  | .temp => s.temp = t.temp
  | .settings => s.settings = t.settings
  | .probe => s.probe = t.probe
  | .store => s.store = t.store
  | .ports => s.ports = t.ports
  | .supervision => s.supervision = t.supervision
  | .lastReset => s.lastReset = t.lastReset
  | .sampleIndex => s.sampleIndex = t.sampleIndex
  | .atMark => s.atMark = t.atMark
  | .tdmOut => s.tdmOut = t.tdmOut
  | .ampSent => s.ampSent = t.ampSent

/-- Only the parts listed may differ between two states. -/
structure Only (parts : List Part) (s t : State) : Prop where
  /-- Every other part is the same. -/
  same : ∀ p, p ∉ parts → p.same s t

/-- The parts a command of the table of R189 may change, whichever it is. -/
def Part.commanded : List Part :=
  [.entry, .target, .line, .eq, .gain, .route, .power, .queue, .mem, .eqWait, .temp, .settings, .probe, .store,
    .ports, .supervision]

/-- The transmitter of the link that a row of a command takes its command from is idle; every other row has no such
link (R188, log entry 3). -/
def LinkIdle (s : State) (i : Instr) : Prop :=
  ∀ p, (commandPort i = some p ∨ ∃ cmd, i = .unknownCommand p cmd) → (s.port p).link.tx = none

/-- The parts each command may change: its own effect, the notices it hands on, and its answer. -/
def partsOf : Instr → List Part
  | .coldReset =>
    [.entry, .target, .line, .eq, .gain, .route, .power, .queue, .mem, .eqWait, .history, .temp, .settings,
      .probe, .store, .ports, .supervision, .lastReset, .sampleIndex, .atMark, .tdmOut, .ampSent]
  | .startupDone => [.entry, .target, .line, .eq, .power, .mem, .temp, .store, .ports]
  | .frameMark _ =>
    [.entry, .target, .line, .eq, .gain, .route, .power, .queue, .eqWait, .history, .temp, .probe, .store,
      .ports, .supervision, .sampleIndex, .atMark, .ampSent]
  | .samplePeriod _ =>
    [.entry, .target, .line, .eq, .gain, .route, .power, .queue, .mem, .eqWait, .temp, .probe, .ports,
      .supervision, .sampleIndex, .atMark, .tdmOut]
  | .changeComplete => [.entry, .queue, .ports, .atMark]
  | .wakeTimeElapsed _ | .drainTimeElapsed _ => [.power, .gain, .eq, .eqWait, .probe, .atMark]
  | .fadeEnd _ => [.route, .power, .gain, .eq, .eqWait, .probe, .atMark]
  | .crossfadeEnd _ => [.eq, .eqWait]
  | .supervisionExpiry => [.supervision, .ports, .atMark]
  | .pollTimerExpiry => [.temp, .atMark]
  | .sensorTransactionEnd _ => [.temp, .target, .ports]
  | .sensorStale _ => [.temp, .target, .ports, .atMark]
  | .trigEdge _ => [.route, .power, .gain, .eq, .eqWait, .probe, .ports]
  | .periodOpen => [.probe]
  | .windowClose => [.probe, .ports, .atMark]
  | .periodEnd => [.route, .power, .gain, .eq, .eqWait, .probe, .ports, .atMark]
  | .eraseComplete _ | .programComplete _ | .lockComplete _ => [.store, .ports]
  | .suspensionEvent => [.store]
  | .sceneReadEnd _ => [.store, .ports, .queue]
  | .frameReceived _ | .byteReceived _ _ _ => Part.commanded
  | .linkGap _ | .unknownCommand _ _ => [.ports]
  | .responseSent _ => Part.commanded ++ [.history, .lastReset, .sampleIndex, .atMark, .tdmOut]
  | .readRecord _ _ _ | .readQueue _ | .readTargets _ _ | .readDelayMap _ | .readSensors _ | .readChain _ _
  | .readRoutes _ _ | .readPower _ _ | .readProbe _ | .readStore _ | .readSystem _ | .noteSetup _ _ _ _
  | .noteRead _ | .noteClear _ _ | .readStatus _ | .restart _ => [.ports]
  | .gain _ _ _ _ | .eqSelect _ _ _ | .eqBank _ _ _ _ | .geometry _ _ _ | .coupling _ _ _ | .timing _ _ _
  | .evacGain _ _ _ | .probeAdopt _ _ => [.queue, .ports]
  | .allocate _ _ _ => [.entry, .target, .eq, .eqWait, .ports]
  | .sensorSetup _ _ _ _ => [.temp, .settings, .target, .ports]
  | .sensorManual _ _ _ | .sensorAuto _ _ => [.temp, .target, .ports]
  | .clearClip _ _ => [.gain, .ports]
  | .routeRaise _ _ _ _ | .routeDrop _ _ _ | .routeDropAll _ | .probeRun _ _ | .probeStop _ =>
    [.route, .power, .gain, .eq, .eqWait, .probe, .ports]
  | .enableZone _ _ => [.entry, .target, .line, .eq, .gain, .route, .power, .mem, .eqWait, .ports]
  | .disableZone _ _ => [.entry, .target, .line, .eq, .gain, .route, .power, .eqWait, .probe, .ports]
  | .probeSetup _ _ | .probeClear _ => [.probe, .ports]
  | .eraseSector _ _ | .storeZone _ _ | .storeScene _ _ | .storeSystem _ | .lockZone _ _ | .recallScene _ _
  | .clearStoreFaults _ | .overrideLocks _ | .lowerOverride _ => [.store, .ports]
  | .setSystem _ _ => [.settings, .queue, .target, .ports]
  | .supervise _ _ | .superviseEnd _ => [.supervision, .ports]

/-! ### Delay memory and allocations (R2, R12, R59, R60) -/

/-- Delay memory keeps its canonical form (R59). -/
def MemoryInv (s : State) : Prop := Memory.wf s.mem

/-- The allocation of a record, where present, lies within pages 0 to 511 (R2, R60). -/
def ZoneRecord.allocated (r : ZoneRecord) : Bool := r.allocation.all Allocation.inMemory

/-- Every allocation lies within pages 0 to 511, in both copies (R60). -/
def AllocationInv (s : State) : Prop :=
  ∀ z : Zone, (s.active z).allocated = true ∧ (s.shadow z).allocated = true

/-- The allocation is the same in both copies of every record, and the ranges of two zones share no page
(R12, R60). -/
def MapInv (s : State) : Prop :=
  (∀ z : Zone, (s.active z).allocation = (s.shadow z).allocation) ∧
  ∀ y z : Zone, y ≠ z → ∀ a b, (s.active y).allocation = some a → (s.active z).allocation = some b →
    a.overlaps b = false

/-! ### The pending groups (R1, R7, R9) -/

/-- The fields of a group have the same values in two records (R6). -/
def FieldGroup.agrees (a b : ZoneRecord) : FieldGroup → Prop
  | .enable => a.enabled = b.enabled
  | .allocation => a.allocation = b.allocation
  | .geometry =>
    a.pathLength = b.pathLength ∧ a.precedence = b.precedence ∧ a.trim = b.trim ∧ a.weights = b.weights ∧
      a.reference = b.reference
  | .coupling => a.coupling = b.coupling
  | .timing =>
    a.slew = b.slew ∧ a.fadeLength = b.fadeLength ∧ a.wakeTime = b.wakeTime ∧ a.parkHang = b.parkHang
  | .bank k => a.banks[k] = b.banks[k]
  | .select => a.eqSelect = b.eqSelect
  | .level => a.gain = b.gain ∧ a.mute = b.mute
  | .evac => a.evacGain = b.evacGain

/-- The shadow record of a zone differs from its active record only in the groups of its pending group set,
which holds no group twice and only groups written through the queue (R1, R6). -/
def TableInv (s : State) : Prop :=
  ∀ z : Zone, (s.zone z).entry.groups.Nodup ∧ (∀ g ∈ (s.zone z).entry.groups, g ∈ queuedGroups) ∧
    ∀ g : FieldGroup, g ∉ (s.zone z).entry.groups → g.agrees (s.active z) (s.shadow z)

/-! ### Service (R13) -/

/-- The enabled field is yes in both copies exactly while the zone is not DISABLED, the allocation is the same
in both copies, and an enabled zone has one (R12, R13). -/
def ServiceInv (s : State) : Prop :=
  ∀ z : Zone, (s.active z).enabled = (s.powerOf z).inService ∧
    (s.shadow z).enabled = (s.powerOf z).inService ∧
    (s.active z).allocation = (s.shadow z).allocation ∧
    ((s.active z).enabled = true → (s.active z).allocation ≠ none)

/-! ### Ranges (R2, R3, R5, R191) -/

/-- The ranges of an allocation (R2). -/
def Allocation.within (a : Allocation) : Bool :=
  decide (a.base ≤ 511 ∧ 1 ≤ a.count ∧ a.count ≤ 128 ∧ a.base + a.count ≤ 512)

/-- The range of a coupling offset (R2). -/
def Coupling.within (k : Coupling) : Bool := inRange (-64000) 64000 k.offset

/-- The ranges of the GEOMETRY fields (R2). -/
def Geometry.within (g : Geometry) : Bool :=
  inRange 0 400000 g.pathLength && inRange 0 960 g.precedence && inRange (-6400) 6400 g.trim &&
    g.weights.toList.all fun w => decide (w ≤ 15)

/-- The ranges of the TIMING fields (R3). -/
def Timing.within (t : Timing) : Bool :=
  decide (1 ≤ t.slew ∧ t.slew ≤ 64 ∧ t.fadeLength ≤ 255 ∧ t.wakeTime ≤ 1000 ∧ t.parkHang ≤ 60000)

/-- The range of a gain code (R3). -/
def gainWithin (g : Int) : Bool := inRange (-160) 24 g

/-- The values of the GEOMETRY group of a record (R6). -/
def ZoneRecord.geometry (r : ZoneRecord) : Geometry :=
  { pathLength := r.pathLength, precedence := r.precedence, trim := r.trim, weights := r.weights,
    reference := r.reference }

/-- The values of the TIMING group of a record (R6). -/
def ZoneRecord.timing (r : ZoneRecord) : Timing :=
  { slew := r.slew, fadeLength := r.fadeLength, wakeTime := r.wakeTime, parkHang := r.parkHang }

/-- Every field of a record lies within its range; zone numbers, selects and coefficients do by their types
(R2, R3, R4). -/
def ZoneRecord.within (r : ZoneRecord) : Bool :=
  r.allocation.all Allocation.within && r.geometry.within && r.coupling.all Coupling.within &&
    r.timing.within && gainWithin r.gain && gainWithin r.evacGain

/-- The gain codes of a scene (R8). -/
def Scene.within (x : Scene) : Bool := x.toList.all fun i => gainWithin i.gain

/-- The values a change carries (R21). -/
def Change.within : Change → Bool
  | .gain g _ => gainWithin g
  | .eqSelect _ => true
  | .eqBank _ _ => true
  | .geometry g => g.within
  | .coupling k => k.all Coupling.within
  | .timing t => t.within
  | .evacGain g => gainWithin g
  | .scene x => Scene.within x

/-- The structural values of contents (R175). -/
def Contents.within : Contents → Bool
  | .zone r => r.allocation.all fun a => decide (a.base ≤ 511 ∧ 1 ≤ a.count ∧ a.count ≤ 128)
  | .scene x => Scene.within x
  | .system _ | .erased | .damaged => true

/-- The ranges of the system settings record (R191). -/
def Settings.within (x : Settings) : Bool :=
  inRange (-640) 960 x.tRef && decide (x.deadband ≤ 64) &&
    decide (1 ≤ x.bypassMax ∧ x.bypassMax ≤ 15) && decide (1 ≤ x.wakeMax ∧ x.wakeMax ≤ 8) &&
    decide (1 ≤ x.wakeWindow ∧ x.wakeWindow ≤ 100) &&
    decide (1 ≤ x.pollInterval ∧ x.pollInterval ≤ 60) &&
    decide (5 ≤ x.staleLimit ∧ x.staleLimit ≤ 600) &&
    decide (8 ≤ x.spikeLimit ∧ x.spikeLimit ≤ 160) &&
    x.sensors.toList.all fun f => decide (0x08 ≤ f.address ∧ f.address ≤ 0x77)

/-- Every field of both copies of every record lies within its range (R5), and so does all that can reach the
table or the settings: the queue, the entry in hand, the sectors and the captured contents. -/
def RangeInv (s : State) : Prop :=
  (∀ z : Zone, (s.active z).within = true ∧ (s.shadow z).within = true) ∧
  (∀ e ∈ s.queue.entries, e.change.within = true) ∧
  (∀ h, s.queue.hand = some h → h.entry.change.within = true) ∧
  (∀ n : SectorNo, (s.sector n).contents.within = true) ∧
  (∀ op, s.store.op = some op → op.captured.within = true) ∧
  s.settings.within = true

/-! ### The change queue (R18, R24, R28) -/

/-- At most 32 entries, at most 28 of ports P and C, no bypass count above BYPASS_MAX, an older entry's count
at least that of a younger one, and no two entries of one key (R18, R24, R28). -/
def QueueInv (s : State) : Prop :=
  s.queue.entries.length ≤ 32 ∧ s.queue.countPC ≤ 28 ∧
  (∀ e ∈ s.queue.entries, e.bypass ≤ s.settings.bypassMax) ∧
  s.queue.entries.Pairwise (fun older younger =>
    younger.bypass ≤ older.bypass ∧ older.sameKey younger = false)

/-- A change that makes a zone a follower names one zone: COUPLING allows no ALL (R19, R20). -/
def QueueEntry.namesOne (e : QueueEntry) : Prop := e.change.kind = .coupling → e.zone ≠ .all

/-- A coupling in the shadow table names another zone, which is no follower (R32); with what the queue and the
entry in hand hold (R20). -/
def CouplingInv (s : State) : Prop :=
  (∀ (z : Zone) (k : Coupling), (s.shadow z).coupling = some k →
    k.leader ≠ z ∧ (s.shadow k.leader).coupling = none) ∧
  (∀ e ∈ s.queue.entries, e.namesOne) ∧ ∀ h, s.queue.hand = some h → h.entry.namesOne

/-! ### Routes and power (R111, R120, the table of Chapter 8) -/

/-- A route entry within its limits: a level from 1 to its port's ceiling, and S8 under port C at level 5
alone (R111, R119). -/
def RouteEntry.within (e : RouteEntry) : Bool :=
  decide (1 ≤ e.level ∧ e.level ≤ ceiling e.port ∧ (e.source.val = 8 → e.port = .C ∧ e.level = 5))

/-- What a power state requires of the route set (table of Chapter 8). -/
def PowerState.fits (p : PowerState) (l : List RouteEntry) : Bool :=
  match p with
  | .disabled | .parked | .draining _ _ => l.isEmpty
  | .wakeWait | .waking _ => !l.isEmpty
  | .live => true

/-- Every route set holds at most 6 entries of distinct keys within their limits, in the order of the
selection, and fits its zone's power state; during start-up every zone is DISABLED and the probe IDLE
(R111, R120, R129, R143, R160). -/
def RouteInv (s : State) : Prop :=
  (∀ z : Zone, (s.zone z).route.entries.length ≤ 6 ∧
    (∀ e ∈ (s.zone z).route.entries, e.within = true) ∧
    (s.zone z).route.entries.Pairwise (fun a b => a.before b = true ∧ ¬ (a.port = b.port ∧ a.source = b.source)) ∧
    (s.powerOf z).fits (s.zone z).route.entries = true) ∧
  (s.starting = true → s.probe.state = .idle ∧ ∀ z : Zone, s.powerOf z = .disabled)

/-! ### Fades (R121 to R126) -/

/-- The source a fade record heads for (R122). -/
def Fade.head : Fade → Option Source
  | .atRest r => r
  | .fading out inc _ _ up => if up then inc else out

/-- Every fade record heads for the source of its zone's winner, or for silence without one; a zone is FADING
only in LIVE, between two sources, with p no greater than N; a DRAINING zone holds no entry; and during
start-up every zone is DISABLED (R121 to R126, R143). -/
def FadeInv (s : State) : Prop :=
  ∀ z : Zone, (s.zone z).route.fade.head = (s.winner z).map (·.source) ∧
    (∀ out inc p n up, (s.zone z).route.fade = .fading out inc p n up →
      s.powerOf z = .live ∧ out ≠ inc ∧ p ≤ n ∧ 0 < n) ∧
    (∀ d n, s.powerOf z = .draining d n → (s.zone z).route.entries = []) ∧
    (s.starting = true → s.powerOf z = .disabled)

/-! ### Crossfade slots and the EQ wait list (R94, R98, R99, R102) -/

/-- The wait list holds each zone in EQ_WAIT once and no other; no slot is held by two zones; a zone that is
not LIVE or DRAINING is STEADY; a zone waits only while no slot is free; and during start-up every zone is
DISABLED (R94, R98, R99, R102, R110, R143). -/
def EqInv (s : State) : Prop :=
  (∀ z : Zone, (s.zone z).eq.mode = .wait ↔ z ∈ s.eqWait) ∧ s.eqWait.Nodup ∧
  (∀ (y z : Zone) (k : Fin 4), (s.zone y).eq.slot = some k → (s.zone z).eq.slot = some k → y = z) ∧
  (∀ z : Zone, (s.powerOf z).heard = false → (s.zone z).eq.mode = .steady) ∧
  (s.eqWait ≠ [] → s.freeSlot = none) ∧
  (s.starting = true → ∀ z : Zone, s.powerOf z = .disabled)

/-! ### Delays (R46, R47, R48, R71) -/

/-- The capacity is that of the active allocation, D_tgt and D_cur lie in 0 to C_z and the write position in 0 to
N − 1, and all three are 0 in a DISABLED zone; with what this rests on (R46, R47, R48, R63, R65, R71). -/
def DelayInv (s : State) : Prop :=
  ServiceInv s ∧
  (∀ z : Zone, (s.zone z).target.cap = capacity (s.active z).allocation ∧
    (s.zone z).target.tgt ≤ (s.zone z).target.cap ∧ (s.zone z).line.dCur ≤ (s.zone z).target.cap ∧
    (s.zone z).line.writePos ≤ lineLength (s.active z).allocation - 1 ∧
    (s.powerOf z = .disabled →
      (s.zone z).target.tgt = 0 ∧ (s.zone z).line.dCur = 0 ∧ (s.zone z).line.writePos = 0)) ∧
  (s.starting = true → ∀ z : Zone, s.powerOf z = .disabled)

/-! ### Estimates (R38, R42, R191) -/

/-- Every temperature a zone can take its estimate from lies in −640 to +960, and so does T_z, whose speed of
sound is the zone's; every speed of sound lies in 307,060 to 367,660 (R42, R78, R88, R191). -/
def EstimateInv (s : State) : Prop :=
  (∀ n : Fin 8, (s.sensor n).lastAccepted.all (inRange (-640) 960) = true ∧
    ∀ v, (s.sensor n).status = .manual v → inRange (-640) 960 v = true) ∧
  inRange (-640) 960 s.settings.tRef = true ∧
  ∀ z : Zone, inRange 307060 367660 (s.zone z).target.c = true ∧
    ∀ t, (s.zone z).target.tz = some t → inRange (-640) 960 t = true ∧ (s.zone z).target.c = soundSpeed t

/-- LEADER_ABSENT is yes at a follower of a DISABLED zone and nowhere else; the estimate source is LEADER at a follower
of an enabled zone and nowhere else, and of the other zones it is REFERENCE where the zone weights no sensor and
nowhere else (R37, R39, R40, R41, R45). -/
def SourceInv (s : State) : Prop :=
  ∀ z : Zone,
    let led := ∃ k, (s.active z).coupling = some k ∧ (s.active k.leader).enabled = true
    ((s.zone z).target.leaderAbsent = true ↔ (s.active z).coupling ≠ none ∧ ¬ led) ∧
    ((s.zone z).target.source = .leader ↔ led) ∧
    (¬ led → ((s.zone z).target.source = .reference ↔ ∀ n : Fin 8, (s.active z).weights[n] = 0))

/-! ### Notifications (R182) -/

/-- Every level lies in 0 to 7, every count in 0 to 255, and a clear flag has a count of 0 (R182, R185). -/
def NoteInv (s : State) : Prop :=
  ∀ (p : Port) (k : Fin 16), (s.notes p)[k].level ≤ 7 ∧ (s.notes p)[k].count ≤ 255 ∧
    ((s.notes p)[k].detail = none → (s.notes p)[k].count = 0)

/-! ### Counters, timers and lists (R79 to R81, R100, R107, R130, R145, R147, R153, R161, R169, R180, R188) -/

/-- The ranges of a copy of the probe settings; the window does not exceed the period (R145). -/
def ProbeSettings.within (x : ProbeSettings) : Prop :=
  (10 ≤ x.period ∧ x.period ≤ 2000) ∧ (1 ≤ x.width ∧ x.width ≤ 48) ∧ (-160 ≤ x.gain ∧ x.gain ≤ 0) ∧
    (1 ≤ x.threshold ∧ x.threshold ≤ 8388607) ∧ (1 ≤ x.window ∧ x.window ≤ x.period)

/-- The counters and timers of every block lie in their ranges, and the lists of the probe, the store and the links
hold no more than their places. -/
structure CounterInv (s : State) : Prop where
  /-- Frames in state (R130), the clip counter (R107), and the crossfade position (R100). -/
  zones : ∀ z : Zone, (s.zone z).power.framesInState ≤ 65535000 ∧ (s.zone z).gain.clip ≤ 65535 ∧
    ∀ inc p k held, (s.zone z).eq.mode = .xfade inc p k held → p ≤ 768
  /-- Consecutive failures and frames since accepted (R79). -/
  sensors : ∀ n : Fin 8, (s.sensor n).failures ≤ 3 ∧ (s.sensor n).framesSince ≤ 65535000
  /-- The poll timer, at most 60 seconds (R81). -/
  poll : ∀ n, s.temp.pollTimer = some n → n ≤ 60000
  /-- Both copies of the probe settings (R145). -/
  probe : s.probe.pending.within ∧ s.probe.current.within
  /-- The frame marks elapsed in a period (R147), and the result list (R153). -/
  run : (∀ e d w b, s.probe.state.run = some (.opened e d w b) → e ≤ 1999) ∧ s.probe.results.length ≤ 16
  /-- The erase counts (R161), and the recall queue (R169). -/
  store : (∀ n : SectorNo, (s.sector n).eraseCount ≤ 65535) ∧ s.store.recalls.length ≤ 4
  /-- The timeout of the supervision, and the frames remaining of it (R180). -/
  supervision : (100 ≤ s.supervision.timeout ∧ s.supervision.timeout ≤ 10000) ∧
    ∀ n, s.supervision.watch = .watching n → n ≤ s.supervision.timeout
  /-- The receive buffers (R188). -/
  buffers : ∀ p, (s.port p).link.buffer.length ≤ 2

/-! ### Terms of the statements about single commands -/

/-- The link of a port takes a command at its row: start-up is over, and its transmitter is idle (R174, R188, log
entry 3). -/
abbrev Takes (s : State) (p : Port) : Prop := s.starting = false ∧ (s.port p).link.tx = none

/-- The event kind of a detail, at one port, after that event alone of its kind (R182). -/
def Flagged (s t : State) (p : Port) (d : Detail) : Prop :=
  (t.notes p)[d.kind] = ((s.notes p)[d.kind]).hit d

/-- q is n / d rounded to nearest, ties away from zero (00_scope 4.2). -/
def NearestAway (n : Int) (d : Nat) (q : Int) : Prop :=
  2 * (n - q * d).natAbs ≤ d ∧ (2 * (n - q * d).natAbs = d → n.natAbs < (q * d).natAbs)

/-- At a FRAME_MARK with this order, the first piece of work is done before the second (log entry 6). -/
def doneBefore (order : List MarkWork) (a b : MarkWork) : Bool :=
  decide ((markOrder order).idxOf a < (markOrder order).idxOf b)

/-- Contents of the kind its sector keeps, each structural value in its range: what a VALID sector holds (R161,
R175). -/
def Contents.sound (n : SectorNo) : Contents → Prop
  | .zone r => n.val < 32 ∧ ∀ a, r.allocation = some a → a.base ≤ 511 ∧ 1 ≤ a.count ∧ a.count ≤ 128
  | .scene x => 32 ≤ n.val ∧ n.val < 40 ∧ ∀ z : Zone, -160 ≤ x[z].gain ∧ x[z].gain ≤ 24
  | .system _ => n.val = 40
  | .erased | .damaged => False

/-- The settings a VALID system sector gives: each numeric field limited to its range, each sensor address to 0x08
to 0x77 (R175, R191). -/
def storedSettings (x : Settings) : Settings :=
  { tRef := max (-640) (min 960 x.tRef), deadband := min 64 x.deadband,
    bypassMax := max 1 (min 15 x.bypassMax), wakeMax := max 1 (min 8 x.wakeMax),
    wakeWindow := max 1 (min 100 x.wakeWindow), pollInterval := max 1 (min 60 x.pollInterval),
    staleLimit := max 5 (min 600 x.staleLimit), spikeLimit := max 8 (min 160 x.spikeLimit),
    sensors := x.sensors.map fun f => { f with address := max 0x08 (min 0x77 f.address) } }

/-- The record a VALID zone sector gives, its allocation or its coupling made absent where it is dropped: each numeric
field limited to its range, and enabled no without an allocation (R5, R176). -/
def keptRecord (r : ZoneRecord) (allocDropped couplingDropped : Bool) : ZoneRecord :=
  let allocation := if allocDropped then none else r.allocation
  { r with
    enabled := r.enabled && allocation.isSome,
    allocation := allocation,
    pathLength := max 0 (min 400000 r.pathLength),
    precedence := max 0 (min 960 r.precedence),
    trim := max (-6400) (min 6400 r.trim),
    weights := r.weights.map fun w => min 15 w,
    coupling :=
      if couplingDropped then none
      else r.coupling.map fun k => { k with offset := max (-64000) (min 64000 k.offset) },
    slew := max 1 (min 64 r.slew),
    fadeLength := min 255 r.fadeLength,
    wakeTime := min 1000 r.wakeTime,
    parkHang := min 60000 r.parkHang,
    gain := max (-160) (min 24 r.gain),
    evacGain := max (-160) (min 24 r.evacGain) }

/-- The temperature of a slot where it is usable: the last accepted reading of a VALID slot, the manual value of a
MANUAL one (R38). -/
def usableTemp (s : State) (n : Fin 8) : Option Int :=
  match (s.sensor n).status with
  | .valid => (s.sensor n).lastAccepted
  | .manual v => some v
  | .off | .seeking | .stale | .fault => none

/-- Σ w over the usable slots a zone weights (R39). -/
def usableWeight (s : State) (z : Zone) : Nat :=
  (allSlots.map fun n => if (usableTemp s n).isSome then (s.active z).weights[n] else 0).sum

/-- Σ w·T over the usable slots a zone weights (R39). -/
def usableSum (s : State) (z : Zone) : Int :=
  (allSlots.map fun n => (s.active z).weights[n] * (usableTemp s n).getD 0).sum

/-- The target fields of a zone, less D_tgt and CLAMPED, are as a computation forms them from its record, the sensors
and, for a follower of an enabled leader, its leader's fields (R39 to R46). -/
structure FieldsFormed (s : State) (z : Zone) : Prop where
  /-- The speed of sound follows T_z (R42). -/
  speed : ∀ t, (s.zone z).target.tz = some t → (s.zone z).target.c = soundSpeed t
  /-- The path delay follows the zone's own path length (R43). -/
  path : (s.zone z).target.dPath = pathDelay (s.active z).pathLength (s.zone z).target.c
  /-- The capacity is that of the allocation (R46). -/
  cap : (s.zone z).target.cap = ((s.active z).allocation.map fun a => (a.count * 1024 - 4) * 64).getD 0
  /-- A follower of an enabled leader takes its leader's T_z and HELD flag, and its raw target with the offset (R41,
  R45). -/
  led : ∀ k, (s.active z).coupling = some k → (s.active k.leader).enabled = true →
    (s.zone z).target.tz = (s.zone k.leader).target.tz ∧ (s.zone z).target.source = .leader ∧
      (s.zone z).target.held = (s.zone k.leader).target.held ∧
      (s.zone z).target.raw = (s.zone k.leader).target.raw + k.offset ∧ (s.zone z).target.leaderAbsent = false
  /-- Every other zone forms its raw target from its own geometry, and T_z from its own weights: T_ref without a
  weight, the weighted mean of the usable slots, or the T_z it had (R39, R40, R44, R45). -/
  own : (∀ k, (s.active z).coupling = some k → (s.active k.leader).enabled = false) →
    (s.zone z).target.leaderAbsent = (s.active z).coupling.isSome ∧
    (s.zone z).target.raw = (s.zone z).target.dPath + 64 * (s.active z).precedence + (s.active z).trim ∧
    ((∀ n : Fin 8, (s.active z).weights[n] = 0) →
      (s.zone z).target.tz = some s.settings.tRef ∧ (s.zone z).target.source = .reference ∧
        (s.zone z).target.held = false) ∧
    (0 < usableWeight s z →
      (∃ q, NearestAway (usableSum s z) (usableWeight s z) q ∧ (s.zone z).target.tz = some q) ∧
        (s.zone z).target.source = .sensors ∧ (s.zone z).target.held = false) ∧
    ((∃ n : Fin 8, (s.active z).weights[n] ≠ 0) → usableWeight s z = 0 →
      (s.zone z).target.source = .held ∧ (s.zone z).target.held = true)

/-- D_tgt of an enabled zone is its raw target limited to 0 to C_z, and CLAMPED says which end; that of a DISABLED
zone is 0, not limited (R47, R48). -/
structure TargetLimited (s : State) (z : Zone) : Prop where
  /-- An enabled zone (R47). -/
  enabled : (s.active z).enabled = true →
    ((s.zone z).target.tgt : Int) = max 0 (min ((s.zone z).target.cap : Int) (s.zone z).target.raw) ∧
    (s.zone z).target.clamped =
      if (s.zone z).target.raw < 0 then .low
      else if ((s.zone z).target.cap : Int) < (s.zone z).target.raw then .high else .no
  /-- A DISABLED zone (R48). -/
  disabled : (s.active z).enabled = false → (s.zone z).target.tgt = 0 ∧ (s.zone z).target.clamped = .no

/-- The slot is read at its turn in a round (R81). -/
def ReadAtTurn (s : State) (n : Fin 8) : Prop :=
  (s.sensorFields n).enabled = true ∧ (s.sensor n).status.isManual = false ∧ (s.sensor n).status ≠ .off

/-- A poll round that starts in a state, by what it leaves of the round state: the transaction of the lowest slot
that is read, at the address its record holds, with the slots after it that are enabled and not MANUAL still to
come in slot order and the spike limit fixed; or, where no slot is read, IDLE (R81). -/
def RoundStarts (s : State) (round : Option Round) : Prop :=
  (∀ x, round = some x →
    ReadAtTurn s x.slot ∧ (∀ m, m < x.slot → ¬ ReadAtTurn s m) ∧
    x.address = (s.sensorFields x.slot).address ∧ x.spikeLimit = s.settings.spikeLimit ∧ x.void = false ∧
    x.rest.Pairwise (· < ·) ∧ ∀ m, m ∈ x.rest ↔
      x.slot < m ∧ (s.sensorFields m).enabled = true ∧ (s.sensor m).status.isManual = false) ∧
  (round = none → ∀ m, ¬ ReadAtTurn s m)

/-- The transaction that follows the one in flight of a round, by what it leaves of the round state: that of the first
slot still to come that is read at its turn, at the address its record then holds, with the slots after it still to
come; or, where none of them is read, IDLE (R81). -/
def RoundGoesOn (x : Round) (t : State) : Prop :=
  (∀ y, t.temp.round = some y →
    (∃ passed, x.rest = passed ++ y.slot :: y.rest ∧ ∀ m ∈ passed, ¬ ReadAtTurn t m) ∧ ReadAtTurn t y.slot ∧
      y.address = (t.sensorFields y.slot).address ∧ y.spikeLimit = x.spikeLimit ∧ y.void = false) ∧
  (t.temp.round = none → ∀ m ∈ x.rest, ¬ ReadAtTurn t m)

/-- A sensor notice of a slot causes a temperature computation of the zone: it weights the slot, and is no follower
or has LEADER_ABSENT yes (R38, R50). -/
def Notified (s : State) (n : Fin 8) (z : Zone) : Prop :=
  0 < (s.active z).weights[n] ∧ ((s.active z).coupling = none ∨ (s.zone z).target.leaderAbsent = true)

/-- The set of a zone takes the probe's entry: it holds its key, or has room (R114, R148). -/
def probeFits (s : State) (y : Zone) : Bool :=
  ((s.zone y).route.entries.any fun x => decide (x.port = .C ∧ x.source = 8)) ||
    decide ((s.zone y).route.entries.length < 6)

/-- A run has started in a zone: its set holds the S8 entry with what it held before, and the probe is RUNNING where
the zone plays S8 at rest in LIVE, and in WAITING_ZONE otherwise (R119, R148, R150). -/
def ProbeStarted (s t : State) (y : Zone) : Prop :=
  (∀ x, x ∈ (t.zone y).route.entries ↔
    x = { port := .C, source := 8, level := 5 } ∨
      (x ∈ (s.zone y).route.entries ∧ ¬ (x.port = .C ∧ x.source = 8))) ∧
  t.probe.state =
    if t.powerOf y = .live ∧ (t.zone y).route.fade.isAtRest = true ∧
        (t.winner y).any (fun x => decide (x.port = .C ∧ x.source = 8)) = true then
      .running (.toOpen (if s.atMark then 2 else 1))
    else .waitingZone

/-- A waiting probe after a winner notice of its zone that leaves it waiting or lets it run: RUNNING where the zone is
LIVE, at rest, with the S8 entry its winner, and WAITING_ZONE otherwise; nothing else of it changes (R150). -/
def ProbeWaits (s t : State) (y : Zone) : Prop :=
  t.probe =
    { s.probe with
      state :=
        if t.powerOf y = .live ∧ (t.zone y).route.fade.isAtRest = true ∧
            (t.winner y).any (fun x => decide (x.port = .C ∧ x.source = 8)) = true then
          .running (.toOpen (if s.atMark then 2 else 1))
        else .waitingZone }

/-- The route set of a zone becomes `new`, with the answers of the route unit and the zone power unit (`setRoutes`:
FadesTurnAndEnd, PowerFollowsWinner), while the probe has a run there: with the winner as before the probe does not
answer, and a waiting probe answers another winner below the evacuation levels by R150 (R120, R147, R150). -/
def RunGoesOn (s t : State) (y : Zone) (new : List RouteEntry) : Prop :=
  let before := (s.zone y).route.entries.head?
  (new.head? = before → t.zones = (setRoutes y new s).zones ∧ t.probe = s.probe) ∧
  (s.probe.state = .waitingZone → new.head? ≠ before → (∀ e, new.head? = some e → e.level < 6) →
    t.zones = (setRoutes y new s).zones ∧ ProbeWaits s t y)

/-- A start made away from PROBE_RUN, in a zone: IDLE with PROBE_CANCELLED and the reason where a check of R148 fails,
and a started run otherwise (R149, R154). -/
def ProbeTriesIn (s t : State) (y : Zone) : Prop :=
  let refused := fun r : CancelReason => t.probe.state = .idle ∧ Flagged s t .C (.probeCancelled y r)
  (s.powerOf y = .disabled → refused .zoneDisabled) ∧
  (s.powerOf y ≠ .disabled → 6 ≤ s.winnerLevel y → refused .evac) ∧
  (s.powerOf y ≠ .disabled → s.winnerLevel y < 6 → probeFits s y = false → refused .routeFull) ∧
  (s.powerOf y ≠ .disabled → s.winnerLevel y < 6 → probeFits s y = true → ProbeStarted s t y)

/-- The result of a period cut short with its window open (R153). -/
def abortedOf (z : Zone) (emission : Nat) (w : Window) : ProbeResult :=
  { zone := z, status := .aborted, raw := none, emission := emission, peak := w.peak, early := false,
    overload := w.overload, slewing := w.slewing }

/-- A disturbance of the period in the probe zone: an ABORTED result is appended where a window was open, and none
otherwise (R153, R155, R156). -/
def CutShort (s t : State) (z : Zone) : Prop :=
  (s.openWindow = none → t.probe.results = s.probe.results) ∧
  ∀ e d w b, s.probe.state.run = some (.opened e d (some w) b) →
    t.probe.results = (s.probe.results ++ [abortedOf z d w]).drop (s.probe.results.length + 1 - 16)

/-- No entry of the set of a zone is the probe's (R119). -/
def NoProbeEntry (t : State) (z : Zone) : Prop :=
  ∀ x ∈ (t.zone z).route.entries, ¬ (x.port = .C ∧ x.source = 8)

/-- The probe's run in a zone has been cancelled for a reason: IDLE with the settings not copied, the period cut
short, the S8 entry gone, and PROBE_CANCELLED raised to port C (R156). -/
def ProbeCancelled (s t : State) (z : Zone) (reason : CancelReason) : Prop :=
  t.probe.state = .idle ∧ t.probe.current = s.probe.current ∧ NoProbeEntry t z ∧ CutShort s t z ∧
    Flagged s t .C (.probeCancelled z reason)

/-- Every zone but one is as before. -/
def Elsewhere (z : Zone) (s t : State) : Prop := ∀ y, y ≠ z → t.zone y = s.zone y

/-- The ports are as before, but that the link of port p sends this answer (R188, R190). -/
def Says (s t : State) (p : Port) (code : Nat) (r : Result) (payload : List Byte) : Prop :=
  t.ports = (s.answer p code r payload).ports

/-- The link of port p sends an answer with this result, whatever events were raised with it (R188). -/
def Replies (t : State) (p : Port) (code : Nat) (r : Result) : Prop :=
  ∃ payload, (t.port p).link.tx =
    some { cmd := byteOf (code + 0x80), result := r, payload := payload, restarts := false }

/-- No event of the last frame mark is still to be taken, and no period is to open (log entry 5). -/
structure NothingDue (s : State) : Prop where
  /-- No slot is due to become STALE (R86). -/
  stale : ∀ n, staleDue s n = false
  /-- The supervision timer is not due to expire (R181). -/
  supervision : supervisionDue s = false
  /-- The poll timer is not due to expire (R81). -/
  poll : pollDue s = false
  /-- No wake time is due to elapse (R138). -/
  wake : ∀ z, wakeDue z s = false
  /-- No drain time is due to elapse (R139). -/
  drain : ∀ z, drainDue z s = false
  /-- The entry in hand is not due to complete (R30). -/
  change : changeDue s = false
  /-- The capture window is not due to close (R153). -/
  window : windowDue s = false
  /-- The period is not due to end (R154). -/
  period : periodDue s = false
  /-- No period is due to open (R151). -/
  opening : s.probe.state.run ≠ some (.toOpen 0)

/-- No fade and no crossfade has been mixed with its last p (R100, R122). -/
def NothingEnding (s : State) : Prop :=
  ∀ z, crossfadeDue z s = false ∧ (s.zone z).route.fade.done = false

/-- The probe answers no winner notice: it is IDLE or ARMED (R147). -/
def ProbeQuiet (s : State) : Prop := s.probe.state = .idle ∨ ∃ e, s.probe.state = .armed e

/-- A change of the route sets of a list of zones leaves the probe alone: it answers no notice, or its zone is not in
the list (R147). -/
def ProbeAside (s : State) (l : List Nat) : Prop := ProbeQuiet s ∨ s.probe.current.zone.val ∉ l

/-- A zone's record as READ_RECORD reports it: the zone, the copy, every field of R2 to R4, the dirty flag, the
pending groups and the load status (R14, log entries 8 and 29). -/
def recordReport (z : Zone) (isActive : Bool) (s : State) : List Byte :=
  let e := (s.zone z).entry
  bZone z ++ [if isActive then 0#8 else 1#8] ++ bRecord (if isActive then s.active z else s.shadow z) ++
    bYes (decide (e.groups ≠ [])) ++ bytesList (fun g => [byteOf (FieldGroup.place g)]) e.groups ++
    [byteOf e.status.origin.place] ++ [if e.status.allocDropped then 1#8 else 0#8] ++
    bYes e.status.couplingDropped

/-- The queue and the apply unit as READ_QUEUE reports them (R34). -/
def queueReport (s : State) : List Byte :=
  [if s.queue.hand.isSome then 1#8 else 0#8] ++
    bytesOption (fun h : InHand => bEntry h.entry ++ bNat h.marks) s.queue.hand ++
    bytesList (fun e : QueueEntry => bEntry e ++ bNat e.bypass) s.queue.entries ++
    bNat (s.queue.countOf .V) ++ bNat (s.queue.countOf .P + s.queue.countOf .C) ++ bNat s.settings.bypassMax

/-- The free pages: those in no zone's range (R60). -/
def freePagesOf (s : State) : List Nat :=
  (List.range 512).filter fun n => decide (∀ z : Zone,
    (s.active z).allocation.all (fun a => decide (n < a.base ∨ a.base + a.count ≤ n)) = true)

/-- The delay map as READ_DELAY_MAP reports it (R73). -/
def delayReport (s : State) : List Byte :=
  allZones.flatMap (bLine s) ++
    bytesList (fun r => bytes2 r.1 ++ bytes2 r.2) (runsOf (freePagesOf s)) ++ bNat (freePagesOf s).length

/-- The sensors as READ_SENSORS reports them (R90). -/
def sensorReport (s : State) : List Byte :=
  allSlots.flatMap (fun n => bSensor s n ++ bYes (s.sensor n).usable.isSome) ++
    [if s.temp.round.isSome then 1#8 else 0#8] ++
    bytesOption (fun r : Round => [byteOf r.slot.val]) s.temp.round ++ bNat (s.temp.pollTimer.getD 0) ++
    bNat s.settings.pollInterval ++ bNat s.settings.staleLimit ++ bNat s.settings.spikeLimit ++
    bytesOption (fun r : Round => bNat r.spikeLimit) s.temp.round

/-- The chains of a set of zones, the holders of the slots and the wait list as READ_CHAIN reports them (R109). -/
def chainReport (zs : List Zone) (s : State) : List Byte :=
  bytesList (bChain s) zs ++ (List.finRange 4).flatMap (fun k => bytesOption bZone (s.slotHolder k)) ++
    bytesList bZone s.eqWait

/-- The power of a set of zones, the wake wait list and the limiter as READ_POWER reports them (R142). -/
def powerReport (zs : List Zone) (s : State) : List Byte :=
  let grants := (s.history.toList.take (s.settings.wakeWindow - 1)).sum
  bytesList (bPower s) zs ++ bytesList (fun z => bZone z ++ [byteOf (s.winnerLevel z)]) s.wakeList ++
    bNat s.settings.wakeMax ++ bNat s.settings.wakeWindow ++ bNat grants ++ bNat (s.settings.wakeMax - grants)

/-- The probe as READ_PROBE reports it (R158, log entry 15). -/
def probeReport (s : State) : List Byte :=
  [byteOf s.probe.state.place] ++
    bytesOption (fun e => [byteOf (Edge.place e)]) s.probe.state.edge ++
    bProbeSettings s.probe.current ++ bProbeSettings s.probe.pending ++ bytesOption bRun s.probe.state.run ++
    bytesList bProbeResult s.probe.results

/-- The store as READ_STORE reports it (R173, log entries 8 and 33). -/
def storeReport (s : State) : List Byte :=
  (List.finRange 41).flatMap (bSector s) ++ [byteOf s.store.state.place] ++
    bytesOption (fun op : Operation =>
      [byteOf op.command.code] ++ bPort op.port ++ [byteOf op.sector.val] ++ [byteOf op.phase.place] ++
        bNat op.left ++ bYes s.store.suspended) s.store.op ++
    bytesList bRecall s.store.recalls ++ bytesOption bRecall s.store.reading ++
    bytesOption bStoreFault s.store.fault ++ bYes s.store.override ++ bytesList bZone s.store.corrupt ++
    bYes s.store.vRecallFailed

/-- The status as READ_STATUS reports it: the supervision, the four members of the fault condition set, the FAULT
line and the last reset (R192). -/
def statusReport (s : State) : List Byte :=
  let lost := decide (s.supervision.watch = .lost)
  let corrupt := decide (s.store.corrupt ≠ [])
  [byteOf s.supervision.watch.place] ++ bNat s.supervision.timeout ++
    bytesOption bNat s.supervision.watch.remaining ++ bYes lost ++ bYes corrupt ++
    bytesList bZone s.store.corrupt ++ bYes s.store.vRecallFailed ++
    bYes (lost || corrupt || s.store.vRecallFailed) ++ bResetKind s.lastReset

/-- The notifications of a port as NOTE_READ reports them: the lead event with its detail, and the set flags in kind
order (R183). -/
def noteReport (p : Port) (s : State) : List Byte :=
  bytesOption (bLead s p) (s.leadEvent p) ++
    bytesList (bFlag s p) (allKinds.filter fun k => decide ((s.notes p)[k].detail ≠ none))

/-- The read commands, with the ports, codes and values that pass their checks, and what each reports of the state
(R14, R34, R56, R73, R90, R109, R128, R142, R158, R173, R183, R191, R192). -/
inductive Reads : Instr → Port → Nat → (State → List Byte) → Prop
  | record {p n c z b} : zoneOf n = some z → choiceBool c = some b →
      Reads (.readRecord p n c) p 0x01 (recordReport z b)
  | queue {p} : Reads (.readQueue p) p 0x09 queueReport
  | targets {p l zs} : zoneSet l = some zs →
      Reads (.readTargets p l) p 0x0A (fun s => bytesList (bTargets s) zs)
  | delayMap {p} : Reads (.readDelayMap p) p 0x0C delayReport
  | sensors {p} : Reads (.readSensors p) p 0x10 sensorReport
  | chain {p l zs} : zoneSet l = some zs → Reads (.readChain p l) p 0x12 (chainReport zs)
  | routes {p l zs} : zoneSet l = some zs →
      Reads (.readRoutes p l) p 0x16 (fun s => bytesList (bRoutes s) zs)
  | power {p l zs} : zoneSet l = some zs → Reads (.readPower p l) p 0x19 (powerReport zs)
  | probe {p} : Reads (.readProbe p) p 0x1F probeReport
  | store {p} : Reads (.readStore p) p 0x29 storeReport
  | system {p} : Reads (.readSystem p) p 0x2B (fun s => bSettings s.settings ++ bSensorFields s.settings)
  | notes {p} : Reads (.noteRead p) p 0x2D (noteReport p)
  | status {p} : Reads (.readStatus p) p 0x31 statusReport

/-- The zones a command of the table of R189 names by number, alone or in a set. -/
def zonesNamed : Instr → List Nat
  | .readRecord _ z _ | .allocate _ z _ | .enableZone _ z | .disableZone _ z | .probeAdopt _ z
  | .storeZone _ z | .lockZone _ z => [z]
  | .gain _ z _ _ | .eqSelect _ z _ | .eqBank _ z _ _ | .geometry _ z _ | .coupling _ z _ | .timing _ z _
  | .evacGain _ z _ =>
    match z with
    | .zone n => [n]
    | .all => []
  | .probeSetup _ a => [a.zone]
  | .readTargets _ l | .clearClip _ l | .readChain _ l | .routeRaise _ l _ _ | .routeDrop _ l _
  | .readRoutes _ l | .readPower _ l => l
  | .coldReset | .startupDone | .frameMark _ | .samplePeriod _ | .changeComplete | .wakeTimeElapsed _
  | .drainTimeElapsed _ | .fadeEnd _ | .crossfadeEnd _ | .supervisionExpiry | .pollTimerExpiry
  | .sensorTransactionEnd _ | .sensorStale _ | .trigEdge _ | .periodOpen | .windowClose | .periodEnd
  | .eraseComplete _ | .programComplete _ | .lockComplete _ | .suspensionEvent | .sceneReadEnd _
  | .frameReceived _ | .linkGap _ | .responseSent _ | .unknownCommand _ _ | .byteReceived _ _ _
  | .readQueue _ | .readDelayMap _ | .sensorSetup _ _ _ _ | .sensorManual _ _ _ | .sensorAuto _ _
  | .readSensors _ | .routeDropAll _ | .probeRun _ _ | .probeStop _ | .probeClear _ | .readProbe _
  | .eraseSector _ _ | .storeScene _ _ | .storeSystem _ | .recallScene _ _ | .clearStoreFaults _
  | .overrideLocks _ | .lowerOverride _ | .readStore _ | .setSystem _ _ | .readSystem _
  | .noteSetup _ _ _ _ | .noteRead _ | .noteClear _ _ | .supervise _ _ | .superviseEnd _ | .readStatus _
  | .restart _ => []

/-- A write command of the store with its port, what it does, its sector and what it captures, where the port
may issue it and its structural values are in range (R162, R164). -/
inductive Writes : Instr → Port → WriteCommand → SectorNo → (State → Contents) → Prop
  | eraseSector {n} {k : SectorNo} : n = k.val →
      Writes (.eraseSector .C n) .C .eraseSector k (fun _ => .erased)
  | storeZone {n} {z : Zone} : n = z.val →
      Writes (.storeZone .C n) .C .storeZone (zoneSector z) (fun s => .zone (s.active z))
  | storeScene {p n} {k : Fin 8} : n = k.val → mayStoreScene p k.val = true →
      Writes (.storeScene p n) p .storeScene (sceneSector k) (fun s => .scene (capturedScene s))
  | storeSystem : Writes (.storeSystem .C) .C .storeSystem systemSector (fun s => .system s.settings)
  | lockZone {n} {z : Zone} : n = z.val →
      Writes (.lockZone .C n) .C .lockZone (zoneSector z) (fun _ => .erased)

/-! ### What a change command asks for (R19, R20, R21) -/

/-- A change command of a port that may issue it, with its structural values in range, asks for a change to a
target, under its code; the last argument says whether every numeric value lay in its range. -/
inductive AsksChange : Instr → Port → Nat → ZoneTarget → Change → Bool → Prop
  | gain {p z t g m b} : p ≠ .V → zoneTarget z = some t → choiceBool m = some b →
      AsksChange (.gain p z g m) p 0x02 t (.gain (limit (-160) 24 g) b) (gainWithin g)
  | eqSelect {p z t k} : p ≠ .V → zoneTarget z = some t →
      AsksChange (.eqSelect p z (Fin.val k)) p 0x03 t (.eqSelect k) true
  | eqBank {z b l x} : zoneOf z = some b → bankOf l = some x → (k : Fin 4) →
      AsksChange (.eqBank .C (.zone z) k.val l) .C 0x04 (.one b) (.eqBank k x) true
  | geometry {z b r} {g : GeometryArg} : zoneOf z = some b → checkOption zoneOf g.reference = some r →
      AsksChange (.geometry .C (.zone z) g) .C 0x05 (.one b) (.geometry (geometryOf g r))
        (inRange 0 400000 g.pathLength && inRange 0 960 g.precedence && inRange (-6400) 6400 g.trim &&
          g.weights.toList.all (inRange 0 15))
  | coupling {z b} {k : CouplingArg} {l : Zone} : zoneOf z = some b → k.leader = l.val →
      AsksChange (.coupling .C (.zone z) (some k)) .C 0x06 (.one b)
        (.coupling (some { leader := l, offset := limit (-64000) 64000 k.offset }))
        (inRange (-64000) 64000 k.offset)
  | uncoupling {z b} : zoneOf z = some b →
      AsksChange (.coupling .C (.zone z) none) .C 0x06 (.one b) (.coupling none) true
  | timing {z t} {a : TimingArg} : zoneTarget z = some t →
      AsksChange (.timing .C z a) .C 0x07 t
        (.timing
          { slew := limitNat 1 64 a.slew, fadeLength := limitNat 0 255 a.fadeLength,
            wakeTime := limitNat 0 1000 a.wakeTime, parkHang := limitNat 0 60000 a.parkHang })
        (inRange 1 64 a.slew && inRange 0 255 a.fadeLength && inRange 0 1000 a.wakeTime &&
          inRange 0 60000 a.parkHang)
  | evacGain {z t g} : zoneTarget z = some t →
      AsksChange (.evacGain .V z g) .V 0x08 t (.evacGain (limit (-160) 24 g)) (gainWithin g)

/-- The positions whose value lies outside its range; an item is a position, the range, and the value (R190, log entry
9). -/
def outside (items : List (Nat × Int × Int × Int)) : List Nat :=
  (items.filter fun x => decide (x.2.2.2 < x.2.1 ∨ x.2.2.1 < x.2.2.2)).map fun x => x.1

/-- The fields of a change command that R21 limits, named by their positions among its parameters (R2, R3, R21, R190,
log entry 9). -/
inductive Limits : Instr → List Nat → Prop
  | gain {p z g m} : Limits (.gain p z g m) (outside [(1, -160, 24, g)])
  | eqSelect {p z k} : Limits (.eqSelect p z k) []
  | eqBank {p z b l} : Limits (.eqBank p z b l) []
  | geometry {p z} {g : GeometryArg} :
      Limits (.geometry p z g)
        (outside
          ((1, 0, 400000, g.pathLength) :: (2, 0, 960, g.precedence) :: (3, -6400, 6400, g.trim) ::
            (List.finRange 8).map fun n => (4 + n.val, 0, 15, g.weights[n])))
  | coupling {p z} {k : CouplingArg} :
      Limits (.coupling p z (some k)) (outside [(2, -64000, 64000, k.offset)])
  | uncoupling {p z} : Limits (.coupling p z none) []
  | timing {p z} {a : TimingArg} :
      Limits (.timing p z a)
        (outside
          [(1, 1, 64, a.slew), (2, 0, 255, a.fadeLength), (3, 0, 1000, a.wakeTime), (4, 0, 60000, a.parkHang)])
  | evacGain {p z g} : Limits (.evacGain p z g) (outside [(1, -160, 24, g)])

/-- The change is subject to the lock of its zone's sector, and the lock is in force (R22, R31). -/
def LockStops (s : State) (t : ZoneTarget) (c : Change) : Prop :=
  ∃ z, t = .one z ∧ s.lockHolds z = true ∧
    (c.kind = .geometry ∨ c.kind = .eqBank ∨ c.kind = .coupling)

end Sys2Proof.Machine
end

