-- ==== Sys2Proof/Certificates/Slice0/Obligations.lean ====
section
/-! DEFINITION. The statements for the provers. Each docstring names the rules a statement follows, and says
where a clause rests on a choice of the model. -/

open Sys2Proof Sys2Proof.Machine

/-! ### Steps -/

/-- A step takes the command at the front of the queue and carries it out on the state with the queue's rest; on
an empty queue the block idles, which is the model's choice (log entry 2). -/
def Obligations.StepTakesFront : Prop :=
  (∀ (c : Instr) (rest : List Instr) (s : State), s.pending = c :: rest →
    step s = exec c { s with pending := rest }) ∧
  ∀ s : State, s.pending = [] → step s = .next s

/-- The frame of all 77 rows: what `partsOf` does not list for a row, the row leaves as it was; for a row of a
link's command, with the transmitter of its link idle (log entry 3; with a response being sent, that ends first:
LinksAnswer). -/
def Obligations.FramesHold : Prop :=
  ∀ (i : Instr) (s t : State), LinkIdle s i → exec i s = .next t → Only (partsOf i) s t

/-- With every allocation within pages 0 to 511, every command answers a next state; and the one stop of the
model: a SAMPLE_PERIOD for an enabled zone whose allocation runs beyond page 511 faults (R59, R60, log entry 26). -/
def Obligations.FaultsOnlyOutsideMemory : Prop :=
  (∀ (i : Instr) (s : State), AllocationInv s → Answers (exec i s)) ∧
  ∀ (x : Vector Sample 8) (s : State) (z : Zone) (a : Allocation), NothingDue s → NothingEnding s →
    (s.powerOf z).inService = true → (s.active z).allocation = some a → 512 < a.base + a.count →
    exec (.samplePeriod x) s = .fault .noSuchSample

/-! ### Frames of the control links -/

/-- The CMD and PAYLOAD of a command frame, laid out by R189 and R190, are read back as the command they were made
from, with every operand at every value its encoding admits. The layouts of EQ_BANK, PROBE_RUN and NOTE_SETUP rest
on the model's choice (log entry 8). -/
def Obligations.DecodeEncoded : Prop :=
  ∀ (i : Instr) (p : Port) (code : Nat), i.wellFormed = true → commandPort i = some p →
    commandCode i = some code → decodeCommand p (byteOf code) (encodePayload i) = .command i

/-! ### Invariants -/

/-- Every step keeps delay memory in its canonical form, and every step keeps every allocation within pages 0 to
511 and the ranges of two zones disjoint (R2, R12, R59, R60). -/
def Obligations.PagesKept : Prop :=
  Kept MemoryInv ∧ Kept fun s => AllocationInv s ∧ MapInv s

/-- Every step keeps the shadow and active records equal outside the pending groups (R1, R9, R12). -/
def Obligations.TableKept : Prop := Kept TableInv

/-- Every step keeps the enabled field with the power state, D_tgt and D_cur within 0 to C_z and the write
position within 0 to N − 1, all three 0 in a DISABLED zone (R13, R46, R47, R48, R63, R65, R71). -/
def Obligations.DelaysKept : Prop := Kept DelayInv

/-- Every step keeps in their ranges the fields of every zone record and of what can reach one, the settings, the
event kinds, the counters, the timers and the probe settings, and keeps the lists of the probe, the store and the
links within their places (R5, R79, R81, R100, R107, R130, R145, R147, R153, R161, R169, R180, R182, R188, R191). -/
def Obligations.RangesKept : Prop := Kept fun s => RangeInv s ∧ NoteInv s ∧ CounterInv s

/-- Every step keeps the limits and the order of the change queue (R18, R24, R28, R29). -/
def Obligations.QueueKept : Prop := Kept QueueInv

/-- Every step keeps the couplings of the shadow table one level deep, and LEADER_ABSENT and the estimate source of
every zone in line with the couplings, the weights and the zones in service (R32, R37, R45, R176). -/
def Obligations.CouplingsKept : Prop := Kept CouplingInv ∧ Kept fun s => TableInv s ∧ SourceInv s

/-- Every step keeps the route sets within their limits, in the order of the selection, and in line with the power
states (R111, R120, table of Chapter 8). -/
def Obligations.RoutesKept : Prop := Kept RouteInv

/-- Every step keeps every fade headed for its zone's winner, and fading zones LIVE (R121 to R126). -/
def Obligations.FadesKept : Prop := Kept FadeInv

/-- Every step keeps the crossfade slots and the EQ wait list as R94, R98, R99 and R102 have them. -/
def Obligations.SlotsKept : Prop := Kept EqInv

/-- The state right after a cold reset of a part whose store has never been written, which is the model's choice
for `State.reset` (log entry 1), meets every invariant. -/
def Obligations.ResetMeetsInvariants : Prop :=
  MemoryInv State.reset ∧ AllocationInv State.reset ∧ MapInv State.reset ∧ TableInv State.reset ∧
    DelayInv State.reset ∧ RangeInv State.reset ∧ NoteInv State.reset ∧ CounterInv State.reset ∧
    QueueInv State.reset ∧ CouplingInv State.reset ∧ RouteInv State.reset ∧ FadeInv State.reset ∧
    EqInv State.reset ∧ EstimateInv State.reset ∧ SourceInv State.reset

/-! ### Resets and start-up -/

/-- COLD_RESET: what every block holds right after it, the state the scan finds each sector in, and the settings,
those of a VALID system sector limited, and the defaults otherwise (R16, R35, R57, R75, R92, R110, R129, R143,
R160, R174, R175, R178, R180, R185, R194). -/
def Obligations.ColdResetSets : Prop :=
  ∀ s : State, ∃ t, exec .coldReset s = .next t ∧
    t.pending = s.pending ∧ t.starting = true ∧ (∀ z, t.zone z = ZoneState.initial) ∧
    t.queue = { entries := [], hand := none } ∧ t.mem = [] ∧ t.eqWait = [] ∧
    t.history = Vector.replicate 100 0 ∧ t.ports = Vector.replicate 3 PortState.initial ∧
    t.probe =
      { pending := ProbeSettings.default, current := ProbeSettings.default, state := .idle, results := [] } ∧
    t.supervision.watch = .off ∧ t.supervision.timeout = 2000 ∧ t.lastReset = .cold ∧
    t.temp.round = none ∧ t.temp.pollTimer = none ∧
    (∀ n, t.sensor n = SensorRecord.initial (t.sensorFields n).enabled) ∧
    (∀ n : SectorNo, t.sector n = { s.sector n with state := (t.sector n).state } ∧
      ((s.sector n).mark = true → (t.sector n).state = .corrupt) ∧
      ((s.sector n).mark = false → (s.sector n).contents = .erased → (t.sector n).state = .blank) ∧
      ((s.sector n).mark = false → (s.sector n).contents.sound n →
        (s.sector n).contents.checkValue = (s.sector n).check → (t.sector n).state = .valid) ∧
      ((s.sector n).contents ≠ .erased → ¬ (s.sector n).contents.sound n → (t.sector n).state = .corrupt) ∧
      ((s.sector n).contents ≠ .erased → (s.sector n).contents.checkValue ≠ (s.sector n).check →
        (t.sector n).state = .corrupt)) ∧
    (∀ z, z ∈ t.store.corrupt ↔ (t.sector (zoneSector z)).state = .corrupt) ∧
    t.store.op = none ∧ t.store.recalls = [] ∧ t.store.reading = none ∧ t.store.fault = none ∧
    t.store.override = false ∧ t.store.vRecallFailed = false ∧
    ((t.sector systemSector).state ≠ .valid → t.settings = Settings.default) ∧
    ∀ x, (t.sector systemSector).state = .valid → (s.sector systemSector).contents = .system x →
      t.settings = storedSettings x

/-- STARTUP_DONE at the end of start-up load answers a next state: each zone's record and load status, from a
VALID sector limited and repaired against the zones of lower number, with scene 0 over it, or the default record;
the power states, the targets as a record computation forms them, the lines and the cascades; the notification;
and the poll timer with the first poll round (R5, R15, R16, R57, R75, R81, R110, R176, R177). -/
def Obligations.StartupLoads : Prop :=
  ∀ s : State, s.starting = true → ∃ t, exec .startupDone s = .next t ∧
    t.store.state = .ready ∧
    (∀ z, (t.zone z).entry.active = (t.zone z).entry.shadow ∧
      t.powerOf z = (if (t.active z).enabled then .parked else .disabled) ∧
      (t.zone z).line.dCur = (t.zone z).target.tgt ∧
      (t.zone z).eq = { mode := .steady, running := Cascade.setUp (t.active z) } ∧
      (t.zone z).route = (s.zone z).route) ∧
    (∀ (z : Zone) (a : Allocation) (k : Nat), (t.active z).enabled = true → (t.active z).allocation = some a →
      k < a.count * 1024 → memRead t.mem (a.base * 1024 + k) = 0#24 ∧ (t.zone z).line.writePos = 0) ∧
    (∀ z : Zone,
      let x := s.sector (zoneSector z)
      let status := (t.zone z).entry.status
      let holds := fun r : ZoneRecord =>
        { t.active z with gain := r.gain, mute := r.mute, eqSelect := r.eqSelect } = r ∧
          ((s.sector (sceneSector 0)).state ≠ .valid → t.active z = r)
      (x.state = .blank → holds ZoneRecord.default ∧
        status = { origin := .defaultBlank, allocDropped := false, couplingDropped := false }) ∧
      (x.state = .corrupt → holds ZoneRecord.default ∧
        status = { origin := .defaultCorrupt, allocDropped := false, couplingDropped := false }) ∧
      ∀ r, x.state = .valid → x.contents = .zone r →
        holds (keptRecord r status.allocDropped status.couplingDropped) ∧ status.origin = .sector ∧
        (status.allocDropped = true ↔ ∃ a, r.allocation = some a ∧
          (512 < a.base + a.count ∨
            ∃ y b, y < z ∧ (t.active y).allocation = some b ∧ a.overlaps b = true)) ∧
        (status.couplingDropped = true ↔ ∃ k, r.coupling = some k ∧
          (k.leader = z ∨ (k.leader < z ∧ (t.active k.leader).coupling ≠ none) ∨
            ∃ y j, y < z ∧ (t.active y).coupling = some j ∧ j.leader = z))) ∧
    (∀ (z : Zone) (x : Scene), (s.sector (sceneSector 0)).state = .valid →
      (s.sector (sceneSector 0)).contents = .scene x →
      (t.active z).gain = x[z].gain ∧ (t.active z).mute = x[z].mute ∧ (t.active z).eqSelect = x[z].select) ∧
    (∀ z, FieldsFormed t z ∧ TargetLimited t z) ∧
    t.temp.pollTimer = some (s.settings.pollInterval * 1000) ∧ RoundStarts t t.temp.round ∧
    ∀ p, Flagged s t p (.startupDone (decide (s.lastReset ≠ .cold)))

/-- RESTART: the answer with whose last byte the reset event falls, the refusal of a port C that port V's entries
stand against, and the reset event, which keeps a sensor record whose loaded fields are those it had and makes a
slot loaded with other fields OFF where they say enabled no and SEEKING where they say yes, a MANUAL one too (log
entry 34) (R93, R144, R193, R194). -/
def Obligations.RestartResets : Prop :=
  (∀ (p : Port) (s : State), Takes s p → p ≠ .P →
    (p = .C → ∀ z, ∀ e ∈ (s.zone z).route.entries, e.port ≠ .V) →
    exec (.restart p) s =
      .next (s.respond p { cmd := 0xB2#8, result := .ok, payload := [], restarts := true })) ∧
  (∀ (s : State) (z : Zone) (e : RouteEntry), Takes s .C → e ∈ (s.zone z).route.entries → e.port = .V →
    exec (.restart .C) s = .next (s.answer .C 0x32 .evacActive [])) ∧
  ∀ (p : Port) (s : State) (r : Response), (s.port p).link.tx = some r → r.restarts = true →
    ∃ t, exec (.responseSent p) s = .next t ∧ t.starting = true ∧ t.lastReset = .restart p ∧
      t.pending = s.pending ∧ (∀ z, t.zone z = ZoneState.initial) ∧
      t.queue = { entries := [], hand := none } ∧ t.mem = [] ∧ t.eqWait = [] ∧
      t.history = Vector.replicate 100 0 ∧ t.ports = Vector.replicate 3 PortState.initial ∧
      t.probe.state = .idle ∧ t.probe.results = [] ∧ t.supervision.watch = .off ∧
      t.temp.round = none ∧ t.temp.pollTimer = none ∧
      (∀ n, s.sensorFields n = t.sensorFields n → t.sensor n = s.sensor n) ∧
      (∀ n, s.sensorFields n ≠ t.sensorFields n →
        (t.sensor n).lastAccepted = none ∧ (t.sensor n).failures = 0 ∧
        ((t.sensorFields n).enabled = false → (t.sensor n).status = .off) ∧
        ((t.sensorFields n).enabled = true → (t.sensor n).status = .seeking)) ∧
      t.store.op = none ∧ t.store.recalls = [] ∧ t.store.override = false

/-! ### The audio clock -/

/-- FRAME_MARK, the transfer: the shadow record of every dirty zone is copied into its active record, in whatever
order the blocks' work is taken, and no zone stays dirty. Its change notices: a zone dirty with GEOMETRY or
COUPLING has a record computation, and so has a follower of one whose T_z, HELD or R it changed; no other target
moves. A zone asks for a bank change where SELECT changes the select, or where the bank now selected is dirty;
outside LIVE and DRAINING its cascade is set up at once, in EQ_WAIT it keeps its place, in EQ_XFADE its held
change is yes, and in STEADY it joins the wait list in zone order and takes the lowest free slot, or returns to
STEADY where nothing differs, or waits where no slot is left; by the power state as the limiter's work leaves it
where the row's order puts the limiter before the transfer and as it stood before it otherwise (log entry 6). The
notices come after every copy (log entry 24) (R9, R11, R51, R52, R97, R98, R99). -/
def Obligations.FrameMarkTransfers : Prop :=
  (∀ (order : List MarkWork) (s : State), changeDue s = false →
    ∃ t, exec (.frameMark order) s = .next t ∧ t.sampleIndex = 0 ∧ t.atMark = false ∧
      ∀ z, (t.zone z).entry =
        { (s.zone z).entry with
          active := if (s.zone z).entry.groups = [] then s.active z else s.shadow z, groups := [] }) ∧
  ∀ (order : List MarkWork) (s : State), NothingDue s →
    let groups := fun z : Zone => (s.zone z).entry.groups
    let reshaped := fun z : Zone => FieldGroup.geometry ∈ groups z ∨ FieldGroup.coupling ∈ groups z
    ∃ t, exec (.frameMark order) s = .next t ∧
      (TableInv s → CouplingInv s → ∀ z : Zone,
        (reshaped z → FieldsFormed t z ∧ TargetLimited t z) ∧
        (∀ k, (t.active z).coupling = some k → reshaped k.leader →
          ((t.zone k.leader).target.tz ≠ (s.zone k.leader).target.tz ∨
            (t.zone k.leader).target.held ≠ (s.zone k.leader).target.held ∨
            (t.zone k.leader).target.raw ≠ (s.zone k.leader).target.raw) →
          FieldsFormed t z ∧ TargetLimited t z) ∧
        (¬ reshaped z → (∀ k, (t.active z).coupling = some k → ¬ reshaped k.leader) →
          (t.zone z).target = (s.zone z).target)) ∧
      (EqInv s →
        let heard := fun z : Zone =>
          ((if doneBefore order .limiter .transfer then t else s).powerOf z).heard = true
        let asks := fun z : Zone =>
          (FieldGroup.select ∈ groups z ∧ (s.active z).eqSelect ≠ (s.shadow z).eqSelect) ∨
            FieldGroup.bank (s.shadow z).eqSelect ∈ groups z
        let joins := fun z : Zone => asks z ∧ heard z ∧ (s.zone z).eq.mode = .steady
        let undone := fun z : Zone => (s.zone z).eq.running.bank = (s.shadow z).eqSelect ∧
          (s.zone z).eq.running.sections = (s.shadow z).banks[(s.shadow z).eqSelect]
        let loaded := fun z : Zone => Cascade.setUp (s.shadow z)
        (∀ z : Zone,
          let old := (s.zone z).eq
          let new := (t.zone z).eq
          (¬ asks z → new = old) ∧
          (asks z → ¬ heard z → new = { mode := .steady, running := loaded z }) ∧
          (asks z → heard z → old.mode = .wait → new = old) ∧
          (asks z → heard z → ∀ inc p k held, old.mode = .xfade inc p k held →
            new = { old with mode := .xfade inc p k true }) ∧
          (joins z → ∀ (free : List (Fin 4)) (ahead : List Zone),
            free.Pairwise (· < ·) → (∀ k, k ∈ free ↔ ∀ y, (s.zone y).eq.slot ≠ some k) →
            ahead.Pairwise (· < ·) → (∀ y, y ∈ ahead ↔ joins y ∧ ¬ undone y ∧ y < z) →
            (free.length ≤ ahead.length → new = { old with mode := .wait }) ∧
            ∀ k, free[ahead.length]? = some k →
              (undone z → new = old) ∧ (¬ undone z → new = { old with mode := .xfade (loaded z) 0 k false }))) ∧
        ∃ waiting : List Zone, t.eqWait = s.eqWait ++ waiting ∧ waiting.Pairwise (· < ·) ∧
          ∀ z, z ∈ waiting ↔ joins z ∧ (t.zone z).eq.mode = .wait)

/-- FRAME_MARK, the slew: in LIVE and DRAINING D_cur moves toward D_tgt by the lesser of the slew limit and the
distance, in PARKED, WAKE_WAIT and WAKING it takes D_tgt, and in DISABLED it is 0; by the D_tgt and the slew limit
as the transfer leaves them where the row's order puts the transfer before the slew and as they stood before it
otherwise, and so for the power state and the limiter's work (log entry 6). A zone is slewing while it is LIVE or
DRAINING with D_cur not at D_tgt, and its frames to target are ⌈|D_tgt − D_cur| / S⌉ (R54, R68, R69, R71). -/
def Obligations.FrameMarkSlews : Prop :=
  (∀ (order : List MarkWork) (s : State), NothingDue s →
    ∃ t, exec (.frameMark order) s = .next t ∧ ∀ z,
      let x := if doneBefore order .transfer .slew then t else s
      let y := if doneBefore order .limiter .slew then t else s
      let cur := (s.zone z).line.dCur
      let tgt := (x.zone z).target.tgt
      let new := (t.zone z).line.dCur
      ((y.powerOf z).heard = true → cur ≤ tgt → new = cur + min (x.active z).slew (tgt - cur)) ∧
      ((y.powerOf z).heard = true → tgt ≤ cur → new = cur - min (x.active z).slew (cur - tgt)) ∧
      ((y.powerOf z).heard = false → (y.powerOf z).inService = true → new = tgt) ∧
      (y.powerOf z = .disabled → new = 0)) ∧
  ∀ (p : PowerState) (cur tgt slew : Nat),
    (slewing p cur tgt = true ↔ p.heard = true ∧ cur ≠ tgt) ∧
    (p.heard = true → 1 ≤ slew →
      let far := max (tgt - cur) (cur - tgt)
      let frames := framesToTarget p cur tgt slew
      far ≤ frames * slew ∧ ∀ fewer, fewer < frames → fewer * slew < far)

/-- FRAME_MARK, the wake limiter: the zones of the wake wait list with the highest winner levels, among equals the
lowest zone numbers, are granted, as many as WAKE_MAX less the grants of the WAKE_WINDOW − 1 frame marks before;
the grants are counted, and each granted zone wakes with the wake time of its record, as the transfer leaves it
where the row's order puts the transfer before the limiter and as it stood before it otherwise (log entry 6)
(R135, R136, R138). -/
def Obligations.FrameMarkGrants : Prop :=
  ∀ (order : List MarkWork) (s : State), NothingDue s →
    let waits := allZones.filter fun y => decide (s.powerOf y = .wakeWait)
    let allowance := s.settings.wakeMax - (s.history.toList.take (s.settings.wakeWindow - 1)).sum
    ∃ t, exec (.frameMark order) s = .next t ∧
      t.history[0] = min allowance waits.length ∧ (∀ i : Fin 99, t.history[i.val + 1] = s.history[i.val]) ∧
      ∀ z, s.powerOf z = .wakeWait →
        let ahead := waits.filter fun y =>
          decide (s.winnerLevel z < s.winnerLevel y ∨ (s.winnerLevel z = s.winnerLevel y ∧ y.val < z.val))
        let w := ((if doneBefore order .transfer .limiter then t else s).active z).wakeTime
        if ahead.length < allowance then t.powerOf z = if w = 0 then .live else .waking w
        else t.powerOf z = .wakeWait

/-- FRAME_MARK, the gain code: EVAC is named for an enabled zone exactly at a winner of level 6 or 7, and the
target factor is formed from the name and the active record, as the transfer leaves it where the row's order puts
the transfer before this work and as it stood before it otherwise (log entry 6); that of a DISABLED zone is 0; and
a zone LIVE or DRAINING after the frame mark ramps over the frame to its target, from its applied factor or, where
it was not heard before, from 0 (R11, R104, R105, R127). -/
def Obligations.FrameMarkNames : Prop :=
  ∀ (order : List MarkWork) (s : State), NothingDue s →
    ∃ t, exec (.frameMark order) s = .next t ∧ ∀ z,
      ((s.powerOf z).inService = true →
        (t.zone z).route.named = (if 6 ≤ s.winnerLevel z then .evac else .programme) ∧
        let r := (if doneBefore order .transfer .gain then t else s).active z
        (t.zone z).gain.target =
          if 6 ≤ s.winnerLevel z then gainFactor r.evacGain else if r.mute then 0 else gainFactor r.gain) ∧
      (s.powerOf z = .disabled → (t.zone z).gain.target = 0) ∧
      ((t.powerOf z).heard = true →
        (t.zone z).gain.rampTo = (t.zone z).gain.target ∧
        (t.zone z).gain.rampFrom = if (s.powerOf z).heard then (s.zone z).gain.applied else 0) ∧
      ((t.powerOf z).heard = false → (t.zone z).gain.rampFrom = 0 ∧ (t.zone z).gain.rampTo = 0)

/-- FRAME_MARK, the counters: frames in state, wake and drain frames left, the supervision timer, the poll timer,
frames since accepted, the entry in hand, the probe's period and the time still to run in a phase each count the
frame mark, but for a count that began at this frame mark before its FRAME_MARK (`fresh`, log entry 5); that a
phase's time is counted in frame marks is the model's choice (log entry 11). A frame mark within the capture
window at which D_cur is not the delay at emission sets SLEWING; that the one at which the window closes does not
is the model's choice (log entry 15). And the amplifier link carries each enable as the limiter's work leaves it
where the row's order puts the limiter first, and as it stood before it otherwise (log entry 6) (R30, R79, R81,
R130, R138, R139, R141, R147, R151, R163, R181). -/
def Obligations.FrameMarkCounts : Prop :=
  ∀ (order : List MarkWork) (s : State), NothingDue s →
    ∃ t, exec (.frameMark order) s = .next t ∧
      (∀ n, s.supervision.watch = .watching (n + 1) → s.supervision.fresh = false →
        t.supervision.watch = .watching n) ∧
      (s.supervision.fresh = true → t.supervision = { s.supervision with fresh := false }) ∧
      (∀ n, s.temp.pollTimer = some (n + 1) → s.temp.pollFresh = false → t.temp.pollTimer = some n) ∧
      (s.temp.pollFresh = true → t.temp.pollTimer = s.temp.pollTimer) ∧ t.temp.pollFresh = false ∧
      (∀ n, (s.sensor n).fresh = false →
        t.sensor n = { s.sensor n with framesSince := min ((s.sensor n).framesSince + 1) 65535000 }) ∧
      (∀ n, (s.sensor n).fresh = true → t.sensor n = { s.sensor n with fresh := false }) ∧
      (∀ h, s.queue.hand = some h →
        t.queue =
          { s.queue with
            hand := some { h with marks := if h.fresh then h.marks else h.marks - 1, fresh := false } }) ∧
      (∀ op, s.store.op = some op →
        (s.store.state = .erasing ∨ s.store.state = .programming ∨ s.store.state = .locking) →
        t.store = { s.store with op := some { op with left := op.left - 1 } }) ∧
      (∀ z, s.powerOf z ≠ .wakeWait →
        let before := (s.zone z).power
        let after := (t.zone z).power
        after.fresh = false ∧
        (before.fresh = true → after.state = before.state ∧ after.framesInState = before.framesInState) ∧
        (before.fresh = false →
          after.framesInState = min (before.framesInState + 1) 65535000 ∧
          (∀ n, before.state = .waking (n + 1) → after.state = .waking n) ∧
          (∀ d n, before.state = .draining d (n + 1) → after.state = .draining d n))) ∧
      (∀ n, s.probe.state.run = some (.toOpen (n + 1)) → t.probe.state.run = some (.toOpen n)) ∧
      (∀ e d w b, s.probe.state.run = some (.opened e d w b) →
        let last := decide (s.probe.current.period ≤ e + 1)
        let cur := ((if doneBefore order .slew .probe then t else s).zone s.probe.current.zone).line.dCur
        t.probe.state.run = some (.opened (if last then e else e + 1) d
          (w.map fun x =>
            if e + 1 < s.probe.current.window ∧ cur ≠ d then { x with slewing := true } else x) last)) ∧
      ∀ z : Zone, t.ampSent[z] =
        ((if doneBefore order .limiter .amplifier then t else s).powerOf z).enable

/-- SAMPLE_PERIOD: a fade moves p by one, up or down, and mixes; every enabled zone writes its EQ output of the
mix at its write position and moves that on, D_cur is held, and the sample read at D_cur, scaled and saturated, is
the zone's output slot, each saturation counted; the output slot of a zone that is not heard is 0; a DISABLED zone
is left alone; and no other sample of delay memory changes. The memory and output clauses take the allocations to
be disjoint and in range, as every run keeps them (PagesKept, DelaysKept, RangesKept) (R63, R66, R67, R96, R105,
R106, R107, R122). -/
def Obligations.SamplePeriodWrites : Prop :=
  ∀ (x : Vector Sample 8) (s : State), NothingDue s → NothingEnding s → AllocationInv s →
    ∃ t, exec (.samplePeriod x) s = .next t ∧ t.sampleIndex = min (s.sampleIndex + 1) 48 ∧
      (∀ z : Zone, (s.powerOf z).heard = false → t.tdmOut[z] = 0#24) ∧
      (∀ z : Zone, s.powerOf z = .disabled → t.zone z = s.zone z) ∧
      (∀ (z : Zone) (a : Allocation), (s.powerOf z).inService = true → (s.active z).allocation = some a →
        let before := s.zone z
        let after := t.zone z
        let pos := before.line.writePos
        let eq := eqStep before.eq (after.route.fade.mix (sourceSample x (probeSample s)))
        let f := if (s.powerOf z).heard then before.gain.factorAt t.sampleIndex else 0
        after.line =
          { dCur := before.line.dCur, writePos := if pos + 1 < a.count * 1024 then pos + 1 else 0 } ∧
        after.route = { before.route with fade := after.route.fade } ∧
        (∀ r, before.route.fade = .atRest r → after.route.fade = .atRest r) ∧
        (∀ out inc p n, before.route.fade = .fading out inc p n true →
          after.route.fade = .fading out inc (p + 1) n true) ∧
        (∀ out inc p n, before.route.fade = .fading out inc p n false →
          after.route.fade = .fading out inc (p - 1) n false) ∧
        after.eq = eq.1 ∧ after.gain.applied = f ∧
        (MapInv s → DelayInv s → RangeInv s →
          let y := lineRead t.mem a pos before.line.dCur
          let v := gainProduct y f
          let hits := (if eq.2.2 then 1 else 0) + (if v < -8388608 ∨ 8388607 < v then 1 else 0)
          memRead t.mem (a.base * 1024 + pos) = eq.2.1 ∧ t.tdmOut[z] = saturate v ∧
          after.gain.clip = if hits = 0 then before.gain.clip else min (before.gain.clip + hits) 65535)) ∧
      ∀ k : Nat,
        (∀ (z : Zone) (a : Allocation), (s.powerOf z).inService = true → (s.active z).allocation = some a →
          k ≠ a.base * 1024 + (s.zone z).line.writePos) →
        memRead t.mem k = memRead s.mem k

/-- SAMPLE_PERIOD, the whole chain of a zone at unity: at rest on a source of the input link, every section
bypassed, D_cur 0 and the factor unity, the output slot is the input slot (R66, R96, R105, R106, R112). -/
def Obligations.SamplePeriodPasses : Prop :=
  ∀ (x : Vector Sample 8) (s : State) (z : Zone) (n : Fin 8) (src : Source) (a : Allocation),
    NothingDue s → NothingEnding s → AllocationInv s → (s.powerOf z).heard = true →
    (s.zone z).route.fade = .atRest (some src) → src.val = n.val → (s.zone z).eq.mode = .steady →
    (∀ i : Fin 8, (s.zone z).eq.running.sections[i].bypass = true) → (s.active z).allocation = some a →
    (s.zone z).line.writePos < a.count * 1024 → (s.zone z).line.dCur = 0 →
    (s.zone z).gain.rampFrom = 4194304 → (s.zone z).gain.rampTo = 4194304 →
    ∃ t, exec (.samplePeriod x) s = .next t ∧ t.tdmOut[z] = x[n]

/-! ### Checks before a command's own rule -/

/-- During start-up every command of the table is answered STARTING; outside it a port that may not issue a
command is answered NOT_PERMITTED, and one that names a zone outside Z0 to Z31 BAD_VALUE; and a refused write
command of the store lowers the lock override, which is all that these refusals change. Here and in every
statement below about a row of a command, the transmitter of the command's link is idle (`Takes`); a row taken
with a response being sent ends that first (log entry 3, LinksAnswer) (R164, R168, R174, R189). -/
def Obligations.RefusalsHold : Prop :=
  ∀ (i : Instr) (p : Port) (code : Nat) (s : State), commandPort i = some p → commandCode i = some code →
    (s.port p).link.tx = none →
    let u := if 0x20 ≤ code ∧ code ≤ 0x24 then { s with store := { s.store with override := false } } else s
    (s.starting = true → exec i s = .next (u.answer p code .starting [])) ∧
    (s.starting = false → portMay s p code = false → exec i s = .next (u.answer p code .notPermitted [])) ∧
    (s.starting = false → portMay s p code = true → (∃ n ∈ zonesNamed i, 32 ≤ n) →
      exec i s = .next (u.answer p code .badValue []))

/-- Every read command, from every port, is answered OK with the report of what its rule names, and changes
nothing but the link that sends the answer; the layout of the reports rests on log entries 8, 15, 29 and 33 where
R190 leaves it open (R14, R34, R56, R73, R90, R109, R128, R142, R158, R173, R183, R191, R192). -/
def Obligations.ReadsAnswer : Prop :=
  ∀ (i : Instr) (p : Port) (code : Nat) (report : State → List Byte) (s : State), Reads i p code report →
    Takes s p → exec i s = .next (s.answer p code .ok (report s))

/-! ### The change queue -/

/-- A change command whose key is not in the queue, where there is room and no lock stands in the way, is appended
at the young end with bypass count 0 and answered QUEUED, or OK_CLAMPED where a field was limited, with the
disposition, the position, the port's count and the positions of the fields that lay outside their ranges
(`Limits`, log entry 9); with the apply unit APPLYING it waits, and with the apply unit FREE and the queue empty
it is taken at once, with the frame marks of its kind (R21, R24, R25, R27, R30). -/
def Obligations.ChangeAppended : Prop :=
  ∀ (c : Instr) (p : Port) (code : Nat) (t : ZoneTarget) (ch : Change) (exactly : Bool) (limited : List Nat)
    (s : State),
    AsksChange c p code t ch exactly → Limits c limited → Takes s p → ¬ LockStops s t ch →
    (∀ e ∈ s.queue.entries, e.sameKey { port := p, zone := t, change := ch, bypass := 0 } = false) →
    s.queue.entries.length < 32 → (p = .V ∨ s.queue.countPC < 28) →
    let e : QueueEntry := { port := p, zone := t, change := ch, bypass := 0 }
    let result : Result := if exactly then .queued else .okClamped
    let payload := 0#8 :: (bytes4 (s.queue.entries.length + 1 : Nat) ++ bytes4 (s.queue.countOf p + 1 : Nat) ++
      bytesList (fun n => [byteOf n]) limited)
    (limited = [] ↔ exactly = true) ∧
      (s.queue.hand.isSome = true →
        exec c s = .next
          ({ s with queue := { s.queue with entries := s.queue.entries ++ [e] } }.answer p code result
            payload)) ∧
      (s.queue.hand = none → s.queue.entries = [] →
        exec c s = .next
          ({ s with
              queue := { entries := [], hand := some { entry := e, marks := ch.kind.marks, fresh := s.atMark } }
            }.answer p code result payload))

/-- A change command whose key is in the queue replaces that entry's payload alone, even in a full queue, and is
answered MERGED, or OK_CLAMPED where a field was limited; a GEOMETRY, EQ_BANK or COUPLING whose zone's lock is in
force is answered LOCKED; a change that cannot merge is answered QUEUE_FULL where the queue holds 32 entries, and
from ports P and C where it holds 28 of theirs; and a refusal changes nothing else (R21 to R25). -/
def Obligations.ChangeMergedOrRefused : Prop :=
  ∀ (c : Instr) (p : Port) (code : Nat) (t : ZoneTarget) (ch : Change) (exactly : Bool) (s : State),
    AsksChange c p code t ch exactly → Takes s p →
    (¬ LockStops s t ch → ∀ old ∈ s.queue.entries,
      old.port = p → old.zone = t → old.change.kind = ch.kind → old.change.bank = ch.bank →
      ∃ payload, exec c s = .next
        ({ s with
            queue :=
              { s.queue with
                entries := s.queue.entries.map fun e : QueueEntry =>
                  if e.port = p ∧ e.zone = t ∧ e.change.kind = ch.kind ∧ e.change.bank = ch.bank then
                    { e with change := ch }
                  else e }
          }.answer p code (if exactly then .merged else .okClamped) payload)) ∧
    (LockStops s t ch → exec c s = .next (s.answer p code .locked [])) ∧
    (¬ LockStops s t ch →
      (∀ e ∈ s.queue.entries, e.sameKey { port := p, zone := t, change := ch, bypass := 0 } = false) →
      (32 ≤ s.queue.entries.length ∨ (p ≠ .V ∧ 28 ≤ s.queue.countPC)) →
      exec c s = .next (s.answer p code .queueFull []))

/-- The entry a FREE apply unit takes: the oldest where its bypass count equals BYPASS_MAX, otherwise the oldest
entry of the first of the ports V, C, P that has one; every older entry's bypass count rises by one, and the entry
leaves the queue for the hand with the frame marks of its kind (R27, R28, R30). -/
def Obligations.NextEntryChosen : Prop :=
  ∀ s : State, s.queue.hand = none → s.queue.entries ≠ [] →
    ∃ (older younger : List QueueEntry) (e : QueueEntry), s.queue.entries = older ++ e :: younger ∧
      takeNext s =
        { s with
          queue :=
            { entries := older.map (fun x => { x with bypass := x.bypass + 1 }) ++ younger,
              hand := some { entry := e, marks := e.change.kind.marks, fresh := s.atMark } } } ∧
      ((s.queue.entries.head?.map (·.bypass) = some s.settings.bypassMax ∧ older = []) ∨
        (s.queue.entries.head?.map (·.bypass) ≠ some s.settings.bypassMax ∧
          (∀ x ∈ older, x.port ≠ e.port) ∧
          (e.port ≠ .V → ∀ x ∈ s.queue.entries, x.port ≠ .V) ∧
          (e.port = .P → ∀ x ∈ s.queue.entries, x.port ≠ .C)))

/-- CHANGE_COMPLETE of an entry that no check drops: the fields of its kind take its values in the shadow record
of its zone, or of every zone, its groups join the pending groups, the active records stand, QUEUE_DRAINED is
raised where the queue holds no entry of its port, and the apply unit takes the next entry (NextEntryChosen), or
stands FREE; taken after its FRAME_MARK or, by R10, before it (R7, R8, R10, R27, R30, R33, log entry 5). -/
def Obligations.ChangeLands : Prop :=
  ∀ (s : State) (h : InHand), s.queue.hand = some h →
    (h.marks = 0 ∨ (s.sampleIndex = 48 ∧ h.marks = 1 ∧ h.fresh = false)) →
    dropReason s h.entry.zone h.entry.change = none →
    ∃ t, exec .changeComplete s = .next t ∧
      (∀ z, (t.zone z).entry.active = (s.zone z).entry.active ∧
        (t.zone z).entry.status = (s.zone z).entry.status ∧
        (if h.entry.zone = .all ∨ h.entry.zone = .one z then
          (t.zone z).entry.shadow =
            (match h.entry.change with
            | .gain g m => { s.shadow z with gain := g, mute := m }
            | .eqSelect k => { s.shadow z with eqSelect := k }
            | .eqBank b x => { s.shadow z with banks := (s.shadow z).banks.set b x }
            | .geometry g =>
              { s.shadow z with
                pathLength := g.pathLength, precedence := g.precedence, trim := g.trim, weights := g.weights,
                reference := g.reference }
            | .coupling k => { s.shadow z with coupling := k }
            | .timing v =>
              { s.shadow z with
                slew := v.slew, fadeLength := v.fadeLength, wakeTime := v.wakeTime, parkHang := v.parkHang }
            | .evacGain g => { s.shadow z with evacGain := g }
            | .scene x =>
              { s.shadow z with gain := x[z].gain, mute := x[z].mute, eqSelect := x[z].select }) ∧
          ∀ g, g ∈ (t.zone z).entry.groups ↔
            g ∈ queuedGroups ∧ (g ∈ h.entry.change.groups ∨ g ∈ (s.zone z).entry.groups)
        else t.zone z = s.zone z)) ∧
      t.ports =
        (if ∃ e ∈ s.queue.entries, e.port = h.entry.port then s
          else s.raise h.entry.port (.queueDrained h.entry.zone h.entry.change.kind)).ports ∧
      t.queue =
        (takeNext
          { s with
            queue := { s.queue with hand := none }, atMark := s.atMark || decide (h.marks = 1) }).queue ∧
      (s.queue.entries = [] → t.queue = { entries := [], hand := none }) ∧
      (s.queue.entries ≠ [] → t.queue.hand.isSome = true ∧ t.queue.entries.length + 1 = s.queue.entries.length)

/-- CHANGE_COMPLETE of an entry that a check drops: LOCKED for a GEOMETRY, EQ_BANK or COUPLING of a zone whose
lock is in force, also where the coupling check would drop it too (the model's choice, log entry 30), BAD_COUPLING
for a coupling to the zone itself, to a follower, or of a leader; no record changes, and CHANGE_DROPPED is raised
to the entry's port; taken after its FRAME_MARK or, by R10, before it (log entry 5) (R10, R31, R32, R33). -/
def Obligations.ChangeDropped : Prop :=
  ∀ (s : State) (h : InHand) (z : Zone), s.queue.hand = some h →
    (h.marks = 0 ∨ (s.sampleIndex = 48 ∧ h.marks = 1 ∧ h.fresh = false)) → h.entry.zone = .one z →
    ((h.entry.change.kind = .geometry ∨ h.entry.change.kind = .eqBank ∨ h.entry.change.kind = .coupling) →
      s.lockHolds z = true →
      ∃ t, exec .changeComplete s = .next t ∧ t.zones = s.zones ∧
        Flagged s t h.entry.port (.changeDropped (.one z) h.entry.change.kind .locked)) ∧
    (∀ k : Coupling, h.entry.change = .coupling (some k) → s.lockHolds z = false →
      (k.leader = z ∨ (∃ x, (s.shadow k.leader).coupling = some x) ∨
        (∃ y x, y ≠ z ∧ (s.shadow y).coupling = some x ∧ x.leader = z)) →
      ∃ t, exec .changeComplete s = .next t ∧ t.zones = s.zones ∧
        Flagged s t h.entry.port (.changeDropped (.one z) .coupling .badCoupling))

/-! ### Targets, lines and gain: the arithmetic -/

/-- The speed of sound of a zone (R42): every computation that has a T_z forms c from it; c is the rounded sum of
R42, 343,420 at the default of T_ref, and moves by 37 or 38 with each sixteenth of a degree; and every step keeps
T_z within −640 to +960 and c within 307,060 to 367,660. -/
def Obligations.SoundSpeedKept : Prop :=
  (∀ (cls : ComputationClass) (z : Zone) (s : State),
    let x := ((computeOne cls z s).zone z).target
    ∀ t, x.tz = some t → x.c = soundSpeed t) ∧
  (∀ t : Int, 0 ≤ t → soundSpeed t = 331300 + (2 * (606 * t) + 16) / 32) ∧
  (∀ t : Int, t ≤ 0 → soundSpeed t = 331300 - (2 * (606 * (-t)) + 16) / 32) ∧
  soundSpeed 320 = 343420 ∧
  (∀ t : Int, soundSpeed (t + 1) - soundSpeed t = 37 ∨ soundSpeed (t + 1) - soundSpeed t = 38) ∧
  Kept EstimateInv

/-- The factors of gain codes: each the number nearest to 2^22 × 10^(G/40), the comparison made exactly by the
40th power, and the table of R103. -/
def Obligations.GainFactors : Prop :=
  (∀ g : Int, -160 ≤ g → g ≤ 24 →
    let f := gainFactor g
    (2 * f - 1) ^ 40 * 10 ^ (-g).toNat ≤ (2 * 4194304) ^ 40 * 10 ^ g.toNat ∧
    (2 * 4194304) ^ 40 * 10 ^ g.toNat < (2 * f + 1) ^ 40 * 10 ^ (-g).toNat ∧ 419 ≤ f ∧ f ≤ 16697825) ∧
  gainFactor 24 = 16697825 ∧ gainFactor 12 = 8368737 ∧ gainFactor 0 = 4194304 ∧ gainFactor (-12) = 2102132 ∧
  gainFactor (-20) = 1326355 ∧ gainFactor (-40) = 419430 ∧ gainFactor (-160) = 419 ∧
  ∀ r : ZoneRecord, r.mute = true → targetFactor r .programme = 0

/-- The audio arithmetic. A section that is not bypassed: the exact sum of five products, divided by 2^20 with
rounding to nearest and ties away from zero, saturated to 24 bits, the state moved on, and the saturation told; a
bypassed one passes its input; a cascade runs its eight sections in order; a crossfade mixes its two cascades with
p raised first. A fade mix, a ramp and a gain product are the rounded straight lines and product of their rules,
and the output is saturated to 24 bits. A read interpolates between the two samples about D_cur, ties upward. The
pulse level of every pulse gain is the nearest to 8,388,607 × 10^(G/40). A saturation is counted up to 65,535, and
the one that takes the counter from 0 raises CLIP to ports P and C (R63, R66, R95, R96, R100, R105, R106, R107,
R122, R151). -/
def Obligations.SectionComputes : Prop :=
  (∀ (c : Section) (st : SectionState) (x : Sample), c.bypass = false →
    let acc := c.b0.toInt * x.toInt + c.b1.toInt * st.x1.toInt + c.b2.toInt * st.x2.toInt
      - c.a1.toInt * st.y1.toInt - c.a2.toInt * st.y2.toInt
    ∃ (q : Int) (y : Sample), NearestAway acc 1048576 q ∧ y.toInt = max (-8388608) (min 8388607 q) ∧
      sectionStep c st x =
        ({ x1 := x, x2 := st.x1, y1 := y, y2 := st.y1 }, y, decide (q < -8388608 ∨ 8388607 < q))) ∧
  (∀ (c : Section) (st : SectionState) (x : Sample), c.bypass = true → sectionStep c st x = (st, x, false)) ∧
  (∀ (c : Cascade) (x : Sample), ∃ line : Nat → Sample, line 0 = x ∧ (cascadeStep c x).2.1 = line 8 ∧
    (cascadeStep c x).1.bank = c.bank ∧ (cascadeStep c x).1.sections = c.sections ∧
    (∀ i : Fin 8,
      (cascadeStep c x).1.states[i] = (sectionStep c.sections[i] c.states[i] (line i.val)).1 ∧
      line (i.val + 1) = (sectionStep c.sections[i] c.states[i] (line i.val)).2.1) ∧
    ((cascadeStep c x).2.2 = true ↔
      ∃ i : Fin 8, (sectionStep c.sections[i] c.states[i] (line i.val)).2.2 = true)) ∧
  (∀ (e : EqState) (inc : Cascade) (p : Nat) (k : Fin 4) (held : Bool) (x : Sample),
    let a := cascadeStep e.running x
    let b := cascadeStep inc x
    (e.mode = .steady ∨ e.mode = .wait → eqStep e x = ({ e with running := a.1 }, a.2.1, a.2.2)) ∧
    (e.mode = .xfade inc p k held → p < 768 →
      ∃ (q : Int) (m : Sample), NearestAway ((b.2.1.toInt - a.2.1.toInt) * (p + 1)) 768 q ∧
        m.toInt = a.2.1.toInt + q ∧
        eqStep e x = ({ mode := .xfade b.1 (p + 1) k held, running := a.1 }, m, a.2.2 || b.2.2))) ∧
  (∀ (out inc : Option Source) (p n : Nat) (up : Bool) (sample : Option Source → Sample), p ≤ n → 0 < n →
    (Fade.atRest inc).mix sample = sample inc ∧
    ∃ q : Int, NearestAway (((sample inc).toInt - (sample out).toInt) * p) n q ∧
      ((Fade.fading out inc p n up).mix sample).toInt = (sample out).toInt + q) ∧
  (∀ (near far : Sample) (f : Nat), f < 64 →
    (interpolate near far f).toInt = near.toInt + (2 * ((far.toInt - near.toInt) * f) + 64) / 128) ∧
  (∀ (m : List MemCell) (a : Allocation) (w d : Nat), w < a.count * 1024 → d / 64 + 1 < a.count * 1024 →
    let back := fun k : Nat => memRead m (a.base * 1024 + if k ≤ w then w - k else w + a.count * 1024 - k)
    lineRead m a w d = interpolate (back (d / 64)) (back (d / 64 + 1)) (d % 64)) ∧
  (∀ (g : GainState) (k : Nat), 1 ≤ k → k ≤ 48 →
    (∃ q : Int, NearestAway (((g.rampTo : Int) - g.rampFrom) * k) 48 q ∧ (g.factorAt k : Int) = g.rampFrom + q) ∧
    g.factorAt 48 = g.rampTo) ∧
  (∀ (y : Sample) (f : Nat), NearestAway (y.toInt * f) 4194304 (gainProduct y f)) ∧
  (∀ v : Int, (saturate v).toInt = max (-8388608) (min 8388607 v)) ∧
  (∀ g : Int, -160 ≤ g → g ≤ 0 →
    let f := pulseLevel g
    (2 * f - 1) ^ 40 * 10 ^ (-g).toNat ≤ (2 * 8388607) ^ 40 ∧
    (2 * 8388607) ^ 40 < (2 * f + 1) ^ 40 * 10 ^ (-g).toNat ∧ 839 ≤ f ∧ f ≤ 8388607) ∧
  ∀ (z : Zone) (byGain : Bool) (s : State),
    let t := clipCount z byGain s
    t.zone z =
      { s.zone z with gain := { (s.zone z).gain with clip := min ((s.zone z).gain.clip + 1) 65535 } } ∧
    Elsewhere z s t ∧
    ((s.zone z).gain.clip = 0 → Flagged s t .P (.clip z byGain) ∧ Flagged s t .C (.clip z byGain)) ∧
    ((s.zone z).gain.clip ≠ 0 → t.ports = s.ports)

/-- A computation of a zone: T_z, HELD, c, D_path, R and C_z are formed in either class, T_z kept where no
weighted slot is usable; D_path is L × 3,072,000 / c to the nearest, ties upward, and lies in 0 to 4,001,824 where
L and c lie in their ranges; a record computation takes D_tgt from R limited to 0 to C_z, and a temperature
computation of an enabled zone only where that lies the deadband or more from D_tgt; TEMP_HELD and TARGET_CLAMPED
are raised to port C; no other zone changes. A computation that changes T_z, HELD or R, or follows a change of the
enabled field, is followed by a record computation of each follower, and one that changes none of them ends there.
A sensor notice computes every zone it is for, in zone order, which is the model's choice (log entry 31), and none
during start-up. A change notice of ENABLE, GEOMETRY, COUPLING or ALLOCATION makes a record computation, and no
other does (R38 to R52, R57). -/
def Obligations.ComputationSettles : Prop :=
  pathDelay 400000 307060 = 4001824 ∧
  (∀ l c : Int, 0 ≤ l → l ≤ 400000 → 307060 ≤ c → c ≤ 367660 →
    pathDelay l c = (2 * (l * 3072000) + c) / (2 * c) ∧ 0 ≤ pathDelay l c ∧ pathDelay l c ≤ 4001824) ∧
  (∀ (cls : ComputationClass) (z : Zone) (s : State),
    (∀ k, (s.active z).coupling = some k → k.leader ≠ z) →
    let t := computeOne cls z s
    let old := (s.zone z).target
    let x := (t.zone z).target
    FieldsFormed t z ∧ Elsewhere z s t ∧
    (x.source = .held → x.tz = some (old.tz.getD s.settings.tRef) ∧
      (old.held = false → ∀ v, x.tz = some v → Flagged s t .C (.tempHeld z v))) ∧
    ((s.active z).enabled = false → TargetLimited t z) ∧
    ((s.active z).enabled = true →
      let far := (max 0 (min (x.cap : Int) x.raw) - (old.tgt : Int)).natAbs
      (cls = .record ∨ s.settings.deadband ≤ far →
        TargetLimited t z ∧ (x.raw < 0 → Flagged s t .C (.targetClamped z false x.raw x.cap)) ∧
        ((x.cap : Int) < x.raw → Flagged s t .C (.targetClamped z true x.raw x.cap))) ∧
      (cls = .temperature → far < s.settings.deadband →
        x.tgt = old.tgt ∧ x.clamped = old.clamped ∧ (t.notes .C)[(7 : Fin 16)] = (s.notes .C)[(7 : Fin 16)]))) ∧
  (∀ (cls : ComputationClass) (enabledChanged : Bool) (z : Zone) (s : State),
    (∀ k, (s.active z).coupling = some k → k.leader ≠ z) →
    let one := computeOne cls z s
    let t := compute cls enabledChanged z s
    let old := (s.zone z).target
    let x := (one.zone z).target
    let passedOn := enabledChanged = true ∨ x.tz ≠ old.tz ∨ x.held ≠ old.held ∨ x.raw ≠ old.raw
    t.zone z = one.zone z ∧ (¬ passedOn → t = one) ∧
    (∀ y, y ≠ z → (∀ k, (s.active y).coupling = some k → k.leader ≠ z) → t.zone y = s.zone y) ∧
    (passedOn → ∀ y k, y ≠ z → (s.active y).coupling = some k → k.leader = z →
      FieldsFormed t y ∧ TargetLimited t y)) ∧
  (∀ (n : Fin 8) (s : State),
    (s.starting = true → sensorNotice n s = s) ∧
    (s.starting = false → (∀ y, ¬ Notified s n y) → sensorNotice n s = s) ∧
    (s.starting = false → SourceInv s → ∀ zs : List Zone, zs.Pairwise (· < ·) →
      (∀ z, z ∈ zs ↔ Notified s n z) →
      sensorNotice n s = zs.foldl (fun u z => compute .temperature false z u) s)) ∧
  ∀ (z : Zone) (groups : List FieldGroup) (s : State),
    (FieldGroup.enable ∈ groups → targetNotice z groups s = compute .record true z s) ∧
    (FieldGroup.enable ∉ groups →
      (FieldGroup.geometry ∈ groups ∨ FieldGroup.coupling ∈ groups ∨ FieldGroup.allocation ∈ groups) →
      targetNotice z groups s = compute .record false z s) ∧
    ((∀ g ∈ groups, g ≠ .enable ∧ g ≠ .geometry ∧ g ≠ .coupling ∧ g ≠ .allocation) →
      targetNotice z groups s = s)

/-! ### Allocation, clip counters and settings -/

/-- ALLOCATE of a DISABLED zone: an allocation that shares no page with another zone's, or none, is written into
both copies with a new capacity and a D_tgt of 0; one that shares a page is answered ALLOC_OVERLAP, and a zone
that is not DISABLED NOT_PERMITTED, with no effect (R12, R61, R62). -/
def Obligations.AllocateWrites : Prop :=
  ∀ (z : Zone) (arg : Option AllocArg) (s : State), Takes s .C →
    (∀ a, arg = some a → a.base ≤ 511 ∧ 1 ≤ a.count ∧ a.count ≤ 128 ∧ a.base + a.count ≤ 512) →
    let new : Option Allocation := arg.map fun a => { base := a.base, count := a.count }
    (s.powerOf z = .disabled → (s.active z).enabled = false →
      (∀ y b a, y ≠ z → (s.active y).allocation = some b → new = some a → a.overlaps b = false) →
      ∃ t, exec (.allocate .C z.val arg) s = .next t ∧
        (t.zone z).entry =
          { (s.zone z).entry with
            active := { s.active z with allocation := new }, shadow := { s.shadow z with allocation := new } } ∧
        (t.zone z).target.cap = capacity new ∧ (t.zone z).target.tgt = 0 ∧
        t.mem = s.mem ∧
        (t.zone z).line = (s.zone z).line ∧ (t.zone z).route = (s.zone z).route ∧
        (∀ y, y ≠ z → { t.zone y with target := (s.zone y).target } = s.zone y) ∧ Replies t .C 0x0B .ok) ∧
    (s.powerOf z = .disabled →
      (∃ y b a, y ≠ z ∧ (s.active y).allocation = some b ∧ new = some a ∧ a.overlaps b = true) →
      ∃ payload, exec (.allocate .C z.val arg) s = .next (s.answer .C 0x0B .allocOverlap payload)) ∧
    (s.powerOf z ≠ .disabled →
      exec (.allocate .C z.val arg) s = .next (s.answer .C 0x0B .notPermitted []))

/-- CLEAR_CLIP sets the clip counters of the zones of its set to 0 and reports the counts before in zone order;
CLEAR_STORE_FAULTS of port C, and of port P for a scene sector, clears the fault record, OVERRIDE_LOCKS sets the
lock override and LOWER_OVERRIDE lowers it, the last three changing nothing but that and the answering link; the
byte that names the override, 0x00 for raised and 0x01 for lowered, is the model's choice (log entry 8) (R108,
R167, R168). -/
def Obligations.CommandsClear : Prop :=
  (∀ (p : Port) (l : List Nat) (s : State), p ≠ .V → Takes s p → l.length ≤ 32 → (∀ n ∈ l, n < 32) →
    ∃ t, exec (.clearClip p l) s = .next t ∧
      (∀ z : Zone, t.zone z =
        if z.val ∈ l then { s.zone z with gain := { (s.zone z).gain with clip := 0 } } else s.zone z) ∧
      Says s t p 0x11 .ok
        (bytesList (fun z => byteOf (Fin.val z) :: bytes4 ((s.zone z).gain.clip : Nat))
          (allZones.filter fun z => decide (z.val ∈ l)))) ∧
  ∀ s : State,
    (∀ p, Takes s p →
      (p = .C ∨ (p = .P ∧ ∃ f, s.store.fault = some f ∧ 32 ≤ f.sector.val ∧ f.sector.val ≤ 39)) →
      exec (.clearStoreFaults p) s = .next
        ({ s with store := { s.store with fault := none } }.answer p 0x26 .ok
          (bytesOption bStoreFault s.store.fault))) ∧
    (Takes s .C →
      exec (.overrideLocks .C) s =
        .next ({ s with store := { s.store with override := true } }.answer .C 0x27 .ok [0#8]) ∧
      exec (.lowerOverride .C) s =
        .next ({ s with store := { s.store with override := false } }.answer .C 0x28 .ok [1#8]))

/-- SET_SYSTEM: each of the eight fields takes its value, limited to its range, the sensor fields stand, the
answer carries the whole record, and bypass counts above a lower BYPASS_MAX are lowered to it; with T_ref
unchanged no target moves, and with a new T_ref every zone whose estimate source is REFERENCE takes it as its T_z
in a temperature computation under the new settings, in zone order, and no other zone that does not follow one
moves (R29, R50, R55, R191). -/
def Obligations.SetSystemWrites : Prop :=
  ∀ (a : SystemArg) (s : State), Takes s .C →
    let exactly := inRange (-640) 960 a.tRef && inRange 0 64 a.deadband && inRange 1 15 a.bypassMax &&
      inRange 1 8 a.wakeMax && inRange 1 100 a.wakeWindow && inRange 1 60 a.pollInterval &&
      inRange 5 600 a.staleLimit && inRange 8 160 a.spikeLimit
    let referred := fun z : Zone => (s.zone z).target.source = .reference
    ∃ t, exec (.setSystem .C a) s = .next t ∧
      t.settings =
        { tRef := max (-640) (min 960 a.tRef), deadband := (max 0 (min 64 a.deadband)).toNat,
          bypassMax := (max 1 (min 15 a.bypassMax)).toNat, wakeMax := (max 1 (min 8 a.wakeMax)).toNat,
          wakeWindow := (max 1 (min 100 a.wakeWindow)).toNat,
          pollInterval := (max 1 (min 60 a.pollInterval)).toNat,
          staleLimit := (max 5 (min 600 a.staleLimit)).toNat,
          spikeLimit := (max 8 (min 160 a.spikeLimit)).toNat, sensors := s.settings.sensors } ∧
      t.queue =
        { s.queue with
          entries := s.queue.entries.map fun e => { e with bypass := min e.bypass t.settings.bypassMax } } ∧
      (max (-640) (min 960 a.tRef) = s.settings.tRef → t.zones = s.zones) ∧
      (∀ z, ¬ referred z → (∀ k, (s.active z).coupling = some k → ¬ referred k.leader) → t.zone z = s.zone z) ∧
      (max (-640) (min 960 a.tRef) ≠ s.settings.tRef → SourceInv s → ∀ zs : List Zone, zs.Pairwise (· < ·) →
        (∀ z, z ∈ zs ↔ referred z) →
        t.zones = (zs.foldl (fun u z => compute .temperature false z u)
          { s with settings := t.settings, queue := t.queue }).zones ∧
        ∀ z ∈ zs, (t.zone z).target.tz = some t.settings.tRef ∧ (t.zone z).target.source = .reference ∧
          FieldsFormed t z) ∧
      ∃ limited : List Nat, (limited = [] ↔ exactly = true) ∧
        (t.port .C).link.tx =
          some
            { cmd := 0xAA#8, result := if exactly then .ok else .okClamped,
              payload :=
                bSettings t.settings ++ bSensorFields t.settings ++ bytesList (fun n => [byteOf n]) limited,
              restarts := false }

/-! ### Sensors -/

/-- SENSOR_SETUP, SENSOR_MANUAL and SENSOR_AUTO: the fields and the record of the slot as the tables of R87, R88
and R89 have them, the transaction in flight for the slot void, and the answer of SENSOR_AUTO without an item; a
SENSOR_MANUAL of a slot computes the zones its notice is for, and a slot that leaves VALID or MANUAL by one of the
others too (R50, R80, R82, R87, R88, R89, R190). -/
def Obligations.SensorCommands : Prop :=
  ∀ (n : Fin 8) (s : State), Takes s .C →
    let r := s.sensor n
    let round := s.temp.round.map fun x => if x.slot = n then { x with void := true } else x
    let held := fun t : State => t.temp.pollTimer = s.temp.pollTimer ∧ t.temp.pollFresh = s.temp.pollFresh
    let noticed := fun t : State =>
      t.zones = (sensorNotice n { s with temp := t.temp, settings := t.settings }).zones
    let left := fun t : State => r.status.isUsable = true ∧ (t.sensor n).status.isUsable = false
    (∀ (c : Choice) (e : Bool) (a : Nat), choiceBool c = some e → 0x08 ≤ a → a ≤ 0x77 →
      let before := s.sensorFields n
      ∃ t, exec (.sensorSetup .C n.val c a) s = .next t ∧
        t.sensorFields n = { enabled := e, address := a } ∧
        (∀ m, m ≠ n → t.sensorFields m = s.sensorFields m ∧ t.sensor m = s.sensor m) ∧
        (before = { enabled := e, address := a } → t.sensor n = r) ∧
        (before ≠ { enabled := e, address := a } →
          t.sensor n =
            { status :=
                if e = false then (if before.enabled then .off else r.status)
                else if before.enabled then (if r.status.isManual then r.status else .seeking)
                else .seeking,
              lastAccepted := none, failures := 0, framesSince := 65535000, lastFailure := none,
              fresh := false }) ∧
        t.temp.round = round ∧ held t ∧ t.settings = { s.settings with sensors := t.settings.sensors } ∧
        (left t → noticed t) ∧ (¬ left t → t.zones = s.zones) ∧ Replies t .C 0x0D .ok) ∧
    (∀ v : Int, ∃ t, exec (.sensorManual .C n.val v) s = .next t ∧
      t.sensor n = { r with status := .manual (max (-640) (min 960 v)), failures := 0 } ∧
      (∀ m, m ≠ n → t.sensor m = s.sensor m) ∧ t.temp.round = round ∧ held t ∧ noticed t ∧
      Replies t .C 0x0E (if -640 ≤ v ∧ v ≤ 960 then .ok else .okClamped)) ∧
    (∃ t, exec (.sensorAuto .C n.val) s = .next t ∧
      (r.status = .off → t.sensor n = r) ∧
      (r.status ≠ .off →
        t.sensor n = { r with status := if (s.sensorFields n).enabled then .seeking else .off, failures := 0 }) ∧
      (∀ m, m ≠ n → t.sensor m = s.sensor m) ∧ t.temp.round = round ∧ held t ∧
      (left t → noticed t) ∧ (¬ left t → t.zones = s.zones) ∧
      (t.port .C).link.tx = some { cmd := 0x8F#8, result := .ok, payload := [], restarts := false })

/-- SENSOR_TRANSACTION_END: an accepted reading makes the slot VALID and computes the zones its notice is for;
each of the four failures is counted as R85 has it, the third taking the slot to FAULT with SENSOR_FAULT;
BUS_STUCK ends the round, and after any other end the round goes on with the first slot of its list that is read
at its turn, at the address its record then holds, and with what follows it in the list; a void transaction leaves
every record as it was and the round goes on, also after a stuck bus (log entry 25); and with no round the row
does nothing (log entry 4) (R78, R81 to R85). -/
def Obligations.SensorOutcomes : Prop :=
  ∀ (bus : BusOutcome) (s : State), (s.temp.round = none → exec (.sensorTransactionEnd bus) s = .next s) ∧
    ∀ x : Round, s.temp.round = some x →
    let r := s.sensor x.slot
    let others := fun t : State => ∀ m, m ≠ x.slot → t.sensor m = s.sensor m
    let goesOn := RoundGoesOn x
    (x.void = true → ∃ t, exec (.sensorTransactionEnd bus) s = .next t ∧ t.temp.sensors = s.temp.sensors ∧
      t.zones = s.zones ∧ t.ports = s.ports ∧ goesOn t) ∧
    (x.void = false → ∀ bits : BitVec 16, bus = .value bits → -640 ≤ bits.toInt → bits.toInt ≤ 960 →
      ((r.status = .valid ∨ r.status = .stale) →
        ∀ last, r.lastAccepted = some last → (bits.toInt - last).natAbs ≤ x.spikeLimit) →
      ∃ t, exec (.sensorTransactionEnd bus) s = .next t ∧ others t ∧ goesOn t ∧
        t.sensor x.slot =
          { r with
            status := .valid, lastAccepted := some bits.toInt, failures := 0, framesSince := 0,
            fresh := s.atMark } ∧
        t.zones = (sensorNotice x.slot { s with temp := t.temp }).zones ∧
        (r.status = .fault → Flagged s t .C (.sensorRecovered x.slot bits.toInt))) ∧
    (x.void = false → ∀ (kind : FailureKind) (value : Option Int),
      ((bus = .stuck ∧ kind = .busStuck ∧ value = none) ∨
        (bus = .noAcknowledge ∧ kind = .noAnswer ∧ value = none) ∨
        (∃ bits : BitVec 16, bus = .value bits ∧ (bits.toInt < -640 ∨ 960 < bits.toInt) ∧ kind = .range ∧
          value = some bits.toInt) ∨
        (∃ (bits : BitVec 16) (last : Int), bus = .value bits ∧ -640 ≤ bits.toInt ∧ bits.toInt ≤ 960 ∧
          (r.status = .valid ∨ r.status = .stale) ∧ r.lastAccepted = some last ∧
          x.spikeLimit < (bits.toInt - last).natAbs ∧ kind = .spike ∧ value = some bits.toInt)) →
      ∃ t, exec (.sensorTransactionEnd bus) s = .next t ∧ others t ∧
        t.sensor x.slot =
          { r with
            failures := min (r.failures + 1) 3, lastFailure := some { kind := kind, value := value },
            status := if 2 ≤ r.failures then .fault else r.status } ∧
        (2 ≤ r.failures → r.status ≠ .fault → Flagged s t .C (.sensorFault x.slot kind)) ∧
        (¬ (2 ≤ r.failures ∧ r.status = .valid) → t.zones = s.zones) ∧
        (2 ≤ r.failures → r.status = .valid →
          t.zones = (sensorNotice x.slot { s with temp := t.temp }).zones) ∧
        (bus = .stuck → t.temp.round = none) ∧ (bus ≠ .stuck → goesOn t))

/-- POLL_TIMER_EXPIRY and SENSOR_STALE when they fall due, after their FRAME_MARK or before it: the timer is
loaded with the poll interval and, in IDLE, a round starts with the lowest slot that is enabled and neither MANUAL
nor OFF, at the address its record holds; a slot that is VALID at a frame mark beyond the stale limit in force
there becomes STALE. That the comparison of a frame mark may be told until the first sample period after it is the
model's choice (R81, R86, R91, log entries 5 and 28). -/
def Obligations.PollAndStale : Prop :=
  (∀ s : State,
    (s.temp.pollTimer = some 0 ∨
      (s.sampleIndex = 48 ∧ s.temp.pollTimer = some 1 ∧ s.temp.pollFresh = false)) →
    ∃ t, exec .pollTimerExpiry s = .next t ∧ t.temp.sensors = s.temp.sensors ∧
      t.temp.pollTimer = some (s.settings.pollInterval * 1000) ∧
      (s.temp.round.isSome = true → t.temp.round = s.temp.round) ∧
      (s.temp.round = none → RoundStarts s t.temp.round)) ∧
  ∀ (n : Fin 8) (s : State),
    (s.sensor n).status = .valid →
    ((s.sampleIndex = 0 ∧ s.settings.staleLimit * 1000 < (s.sensor n).framesSince) ∨
      (s.sampleIndex = 48 ∧ s.settings.staleLimit * 1000 < (s.sensor n).framesSince + 1 ∧
        (s.sensor n).fresh = false)) →
    ∃ t, exec (.sensorStale n) s = .next t ∧ t.sensor n = { s.sensor n with status := .stale } ∧
      (∀ m, m ≠ n → t.sensor m = s.sensor m) ∧
      t.zones = (sensorNotice n { s with temp := t.temp }).zones

/-! ### Routes -/

/-- ROUTE_RAISE over a set of zones, none of them that of a probe in a run: in each zone of the set that is
enabled and has room or the key, the entry stands at the level applied and the others as before, with the fade and
the power state that follow (`setRoutes`: FadesTurnAndEnd, PowerFollowsWinner); a zone that is DISABLED, and for
ports P and C a full zone without the key, is left as it was; so is every zone outside the set; and a level above
the port's ceiling is limited, with OK_CLAMPED. In the zone of a run the set changes in the same way, and the
probe answers the winner notice, if there is one: a run that waits goes on where the new winner is below the
evacuation levels, and is RUNNING where a lowered entry lets S8 win at rest (of the aborts and the cancels,
ProbeStarts) (R113, R114, R115, R120). -/
def Obligations.RoutesRaised : Prop :=
  (∀ (p : Port) (l : List Nat) (src : Source) (level : Nat) (s : State), Takes s p → ProbeAside s l →
    l.length ≤ 32 → (∀ n ∈ l, n < 32) → src.val < 8 → 1 ≤ level →
    let top := ceiling p
    let e : RouteEntry := { port := p, source := src, level := min level top }
    ∃ t, exec (.routeRaise p l src.val level) s = .next t ∧
      Replies t p 0x13 (if level ≤ top then .ok else .okClamped) ∧
      ∀ z : Zone,
        let old := (s.zone z).route.entries
        let held := old.any fun x => decide (x.port = p ∧ x.source = src)
        (z.val ∉ l ∨ s.powerOf z = .disabled ∨ (p ≠ .V ∧ held = false ∧ 6 ≤ old.length) →
          t.zone z = s.zone z) ∧
        (z.val ∈ l → s.powerOf z ≠ .disabled → (held = true ∨ old.length < 6) →
          (∀ x, x ∈ (t.zone z).route.entries ↔ x = e ∨ (x ∈ old ∧ ¬ (x.port = p ∧ x.source = src))) ∧
          t.zone z = (setRoutes z (t.zone z).route.entries s).zone z)) ∧
  ∀ (p : Port) (src : Source) (level : Nat) (s : State),
    let z := s.probe.current.zone
    let old := (s.zone z).route.entries
    let e : RouteEntry := { port := p, source := src, level := min level (ceiling p) }
    Takes s p → src.val < 8 → 1 ≤ level → s.powerOf z ≠ .disabled →
    ((∃ x ∈ old, x.port = p ∧ x.source = src) ∨ old.length < 6) →
    ∃ (new : List RouteEntry) (t : State), exec (.routeRaise p [z.val] src.val level) s = .next t ∧
      (∀ x, x ∈ new ↔ x = e ∨ (x ∈ old ∧ ¬ (x.port = p ∧ x.source = src))) ∧
      (old.Pairwise (fun a b => a.before b = true) → new.Pairwise fun a b => a.before b = true) ∧
      RunGoesOn s t z new

/-- ROUTE_RAISE of port V into a full set without its key: one entry of port P or C goes, of the lowest level,
among those of the highest source, among those of port P before port C; the new entry stands in its place, with
the fade and the power state that follow, and ROUTE_EVICTED is raised to the port of the one that went; with six
entries of port V the zone is left as it was (R115). -/
def Obligations.RaiseEvicts : Prop :=
  ∀ (z : Zone) (src : Source) (level : Nat) (s : State), Takes s .V → ProbeAside s [z.val] → src.val < 8 →
    1 ≤ level → level ≤ 7 → s.powerOf z ≠ .disabled → 6 ≤ (s.zone z).route.entries.length →
    (∀ x ∈ (s.zone z).route.entries, ¬ (x.port = .V ∧ x.source = src)) →
    let old := (s.zone z).route.entries
    let e : RouteEntry := { port := .V, source := src, level := level }
    ∃ t, exec (.routeRaise .V [z.val] src.val level) s = .next t ∧ Replies t .V 0x13 .ok ∧
      ((∀ x ∈ old, x.port = .V) → t.zone z = s.zone z) ∧
      ((∃ x ∈ old, x.port ≠ .V) →
        ∃ gone ∈ old, gone.port ≠ .V ∧
          (∀ x ∈ old, x.port ≠ .V → gone.level < x.level ∨ (gone.level = x.level ∧
            (x.source < gone.source ∨ (x.source = gone.source ∧ (gone.port = .P ∨ x.port = .C))))) ∧
          (∀ x, x ∈ (t.zone z).route.entries ↔
            x = e ∨ (x ∈ old ∧ ¬ (x.port = gone.port ∧ x.source = gone.source))) ∧
          t.zone z = (setRoutes z (t.zone z).route.entries s).zone z ∧
          Flagged s t gone.port (.routeEvicted z gone.source gone.level src level))

/-- ROUTE_DROP over a set of zones and ROUTE_DROP_ALL: the issuing port's entry of the source, or all its entries
of S0 to S7, leave the sets of the zones named, or of all zones, with the fade and the power state that follow
(`setRoutes`: FadesTurnAndEnd, PowerFollowsWinner); every other entry stays, and a zone that is DISABLED or
outside the set is left as it was. Where a probe has a run in a zone of the set, the drop leaves that zone a
winner below the evacuation levels or none: with its winner as before the probe stands, and a run that waits goes
on, RUNNING where the drop lets S8 win at rest (R116, R117, R120, R147, R150). -/
def Obligations.RoutesDropped : Prop :=
  ∀ (p : Port) (s : State), Takes s p →
    let y := s.probe.current.zone
    let calm := fun keep : RouteEntry → Bool =>
      ∀ e, ((s.zone y).route.entries.filter keep).head? = some e → e.level < 6
    let answers := fun (t : State) (keep : RouteEntry → Bool) =>
      let before := (s.zone y).route.entries.head?
      let after := ((s.zone y).route.entries.filter keep).head?
      (after = before → t.probe = s.probe) ∧
      (s.probe.state = .waitingZone → after ≠ before → ProbeWaits s t y)
    (∀ (l : List Nat) (src : Source), l.length ≤ 32 → (∀ n ∈ l, n < 32) → src.val < 8 →
      let keep := fun x : RouteEntry => decide (¬ (x.port = p ∧ x.source = src))
      (ProbeAside s l ∨ calm keep) →
      ∃ t, exec (.routeDrop p l src.val) s = .next t ∧ Replies t p 0x14 .ok ∧
        (∀ z : Zone,
          (z.val ∉ l ∨ s.powerOf z = .disabled → t.zone z = s.zone z) ∧
          (z.val ∈ l → s.powerOf z ≠ .disabled →
            t.zone z = (setRoutes z ((s.zone z).route.entries.filter keep) s).zone z)) ∧
        (ProbeAside s l → t.probe = s.probe) ∧
        (y.val ∈ l → s.powerOf y ≠ .disabled → ¬ ProbeQuiet s → answers t keep)) ∧
    let keep := fun x : RouteEntry => decide (¬ (x.port = p ∧ x.source.val < 8))
    (ProbeQuiet s ∨ calm keep) →
      ∃ t, exec (.routeDropAll p) s = .next t ∧ Replies t p 0x15 .ok ∧
        (∀ z : Zone, t.zone z = (setRoutes z ((s.zone z).route.entries.filter keep) s).zone z) ∧
        (ProbeQuiet s → t.probe = s.probe) ∧ (¬ ProbeQuiet s → answers t keep)

/-- What a winner that appears or becomes absent makes of the power state of its zone: the table of R133, with the
drain time of R72 and R139. -/
def Obligations.PowerFollowsWinner : Prop :=
  ∀ (z : Zone) (new : List RouteEntry) (s : State),
    let old := (s.zone z).route.entries
    let t := setRoutes z new s
    let drain := max (s.active z).parkHang (((s.zone z).line.dCur + 3071) / 3072 + 1)
    (t.zone z).route.entries = new ∧
    (s.powerOf z = .parked → old = [] → new ≠ [] → t.powerOf z = .wakeWait) ∧
    (s.powerOf z = .wakeWait → old ≠ [] → new = [] → t.powerOf z = .parked) ∧
    (∀ n, s.powerOf z = .waking n → old ≠ [] → new = [] → t.powerOf z = .draining drain drain) ∧
    (∀ n, s.powerOf z = .waking n → new ≠ [] → t.powerOf z = .waking n) ∧
    (s.powerOf z = .live → new ≠ [] → t.powerOf z = .live) ∧
    (∀ d n, s.powerOf z = .draining d n → old = [] → new ≠ [] → t.powerOf z = .live) ∧
    (s.powerOf z = .disabled → t.powerOf z = .disabled) ∧
    (∀ y, y ≠ z → t.powerOf y = s.powerOf y)

/-- A winner notice and a fade record. With the winner unchanged the record stands; outside LIVE and DRAINING it
rests on the winner's source; in LIVE and DRAINING the record goes toward that source with N of 384 at level 6 or
7 and of the fade length otherwise, and a LIVE zone whose fade to silence is over at the event drains. At rest it
starts a fade of N samples, or cuts where N is 0; in a fade to a third source it redirects, p kept; in a fade to
one of its two sources it turns or goes on, p scaled to the new N, ties upward; and a fade that is over at once
rests. FADE_END: a fade mixed with its last p rests on the source it headed for, at the coming frame mark where
that p was mixed in the last sample period of the frame (log entry 5), one that leaves a LIVE zone without entries
at rest on silence takes it to DRAINING, and one that leaves it at rest on S8 lets a waiting probe run.
CROSSFADE_END: a crossfade mixed with p = 768 leaves the incoming cascade running and its slot free, for the
oldest zone waiting, whose change may have been undone; and one with a held change waits again, at the young end
(R97, R99, R100, R101, R121 to R126, R134, R150). -/
def Obligations.FadesTurnAndEnd : Prop :=
  (∀ (z : Zone) (new : List RouteEntry) (s : State),
    let t := setRoutes z new s
    let fade := (s.zone z).route.fade
    let src := new.head?.map fun e => e.source
    let n := match new.head? with
      | some e => if 6 ≤ e.level then 384 else (s.active z).fadeLength * 48
      | none => (s.active z).fadeLength * 48
    let drain := max (s.active z).parkHang (((s.zone z).line.dCur + 3071) / 3072 + 1)
    (new.head? = (s.zone z).route.entries.head? → (t.zone z).route.fade = fade) ∧
    (new.head? ≠ (s.zone z).route.entries.head? → (s.powerOf z).heard = false →
      (t.zone z).route.fade = .atRest src) ∧
    (new.head? ≠ (s.zone z).route.entries.head? → (s.powerOf z).heard = true →
      (t.zone z).route.fade = (fade.toward src n).1 ∧
      (s.powerOf z = .live → new = [] →
        t.powerOf z = if (fade.toward src n).2 then .draining drain drain else .live))) ∧
  (∀ (src : Option Source) (n : Nat),
    (∀ rest, src = rest → (Fade.atRest rest).toward src n = (.atRest rest, false)) ∧
    (∀ rest, src ≠ rest → 0 < n → (Fade.atRest rest).toward src n = (.fading rest src 0 n true, false)) ∧
    (∀ rest, src ≠ rest → n = 0 → (Fade.atRest rest).toward src n = (.atRest src, true)) ∧
    (∀ out inc p old up, n = 0 → (Fade.fading out inc p old up).toward src n = (.atRest src, true)) ∧
    (∀ out inc p old up, src ≠ out → src ≠ inc → 0 < n →
      (Fade.fading out inc p old up).toward src n =
        if n ≤ p then (.atRest src, true) else (.fading out src p n true, false)) ∧
    (∀ out inc p old up, out ≠ inc → 0 < n → 0 < old → p ≤ old →
      let scaled := (2 * (p * n) + old) / (2 * old)
      (src = out → (Fade.fading out inc p old up).toward src n =
        if scaled = 0 then (.atRest src, true) else (.fading out inc scaled n false, false)) ∧
      (src = inc → (Fade.fading out inc p old up).toward src n =
        if scaled = n then (.atRest src, true) else (.fading out inc scaled n true, false)))) ∧
  (∀ (z : Zone) (out inc : Option Source) (p n : Nat) (up : Bool) (s : State),
    (s.zone z).route.fade = .fading out inc p n up → (if up then n ≤ p else p = 0) →
    let rest := if up then inc else out
    let drain := max (s.active z).parkHang (((s.zone z).line.dCur + 3071) / 3072 + 1)
    ∃ t, exec (.fadeEnd z) s = .next t ∧ Elsewhere z s t ∧
      (t.zone z).route = { (s.zone z).route with fade := .atRest rest } ∧
      t.atMark = (s.atMark || decide (s.sampleIndex = 48)) ∧
      (t.powerOf z =
        if s.powerOf z = .live ∧ rest = none ∧ (s.zone z).route.entries = [] then .draining drain drain
        else s.powerOf z) ∧
      (s.probe.state = .waitingZone → s.probe.current.zone = z → s.powerOf z = .live →
        (∃ e, (s.zone z).route.entries.head? = some e ∧ e.port = .C ∧ e.source = 8) →
        t.probe.state = .running (.toOpen (if s.atMark = true ∨ s.sampleIndex = 48 then 2 else 1)))) ∧
  (∀ (z : Zone) (inc : Cascade) (p : Nat) (k : Fin 4) (s : State),
    (s.zone z).eq.mode = .xfade inc p k false → 768 ≤ p → (∀ y, (s.zone y).eq.slot = some k → y = z) →
    (s.eqWait = [] →
      ∃ t, exec (.crossfadeEnd z) s = .next t ∧ Elsewhere z s t ∧ t.eqWait = [] ∧
        (t.zone z).eq = { mode := .steady, running := inc }) ∧
    ∀ (w : Zone) (rest : List Zone), s.eqWait = w :: rest → w ≠ z → (s.zone w).eq.mode = .wait →
      let undone := (s.zone w).eq.running.bank = (s.active w).eqSelect ∧
        (s.zone w).eq.running.sections = (s.active w).banks[(s.active w).eqSelect]
      (s.freeSlot = none → ¬ undone →
        ∃ t, exec (.crossfadeEnd z) s = .next t ∧ t.eqWait = rest ∧
          (t.zone z).eq = { mode := .steady, running := inc } ∧
          (t.zone w).eq = { (s.zone w).eq with mode := .xfade (Cascade.setUp (s.active w)) 0 k false } ∧
          ∀ y, y ≠ z → y ≠ w → t.zone y = s.zone y) ∧
      (rest = [] → undone →
        ∃ t, exec (.crossfadeEnd z) s = .next t ∧ t.eqWait = [] ∧
          (t.zone z).eq = { mode := .steady, running := inc } ∧
          (t.zone w).eq = { (s.zone w).eq with mode := .steady } ∧
          ∀ y, y ≠ z → y ≠ w → t.zone y = s.zone y)) ∧
  ∀ (z : Zone) (inc : Cascade) (p : Nat) (k : Fin 4) (s : State),
    (s.zone z).eq.mode = .xfade inc p k true → 768 ≤ p → (∀ y, (s.zone y).eq.slot = some k → y = z) →
    let same := inc.bank = (s.active z).eqSelect ∧ inc.sections = (s.active z).banks[(s.active z).eqSelect]
    (s.eqWait = [] →
      ∃ t, exec (.crossfadeEnd z) s = .next t ∧ Elsewhere z s t ∧ t.eqWait = [] ∧
        (same → (t.zone z).eq = { mode := .steady, running := inc }) ∧
        (¬ same → ∃ j : Fin 4,
          (t.zone z).eq = { mode := .xfade (Cascade.setUp (s.active z)) 0 j false, running := inc } ∧
          (∀ y, y ≠ z → (s.zone y).eq.slot ≠ some j) ∧
          ∀ i, i < j → ∃ y, y ≠ z ∧ (s.zone y).eq.slot = some i)) ∧
    ∀ (w : Zone) (rest : List Zone), s.eqWait = w :: rest → w ≠ z → s.freeSlot = none →
      (s.zone w).eq.mode = .wait →
      ¬ ((s.zone w).eq.running.bank = (s.active w).eqSelect ∧
        (s.zone w).eq.running.sections = (s.active w).banks[(s.active w).eqSelect]) →
      ∃ t, exec (.crossfadeEnd z) s = .next t ∧ t.eqWait = rest ++ [z] ∧
        (t.zone z).eq = { mode := .wait, running := inc } ∧
        (t.zone w).eq = { (s.zone w).eq with mode := .xfade (Cascade.setUp (s.active w)) 0 k false } ∧
        ∀ y, y ≠ z → y ≠ w → t.zone y = s.zone y

/-! ### Zones in and out of service -/

/-- ENABLE_ZONE of a DISABLED zone with an allocation: enabled in both copies, the target computed, the line
cleared, D_cur at D_tgt, the cascade set up, an empty route set at rest on silence, and PARKED; without an
allocation NO_PAGES, and for a zone already enabled OK, both with no effect (R12, R64, R102, R131). -/
def Obligations.ZoneEnabled : Prop :=
  ∀ (z : Zone) (s : State), Takes s .C →
    (∀ a, s.powerOf z = .disabled → (s.active z).allocation = some a →
      ∃ t, exec (.enableZone .C z.val) s = .next t ∧
        t.powerOf z = .parked ∧
        (t.zone z).entry =
          { (s.zone z).entry with
            active := { s.active z with enabled := true }, shadow := { s.shadow z with enabled := true } } ∧
        (t.zone z).target.cap = capacity (some a) ∧
        ((t.zone z).target.tgt : Int) = max 0 (min (capacity (some a) : Int) (t.zone z).target.raw) ∧
        (t.zone z).line = { dCur := (t.zone z).target.tgt, writePos := 0 } ∧
        (t.zone z).eq = { mode := .steady, running := Cascade.setUp (s.active z) } ∧
        (t.zone z).route = { (s.zone z).route with entries := [], fade := .atRest none } ∧
        (∀ k, a.base * 1024 ≤ k → k < a.base * 1024 + a.count * 1024 → memRead t.mem k = 0#24) ∧
        (∀ k, k < a.base * 1024 ∨ a.base * 1024 + a.count * 1024 ≤ k → memRead t.mem k = memRead s.mem k) ∧
        (∀ y, y ≠ z → { t.zone y with target := (s.zone y).target } = s.zone y) ∧ Replies t .C 0x17 .ok) ∧
    (s.powerOf z = .disabled → (s.active z).allocation = none →
      exec (.enableZone .C z.val) s = .next (s.answer .C 0x17 .noPages [])) ∧
    (s.powerOf z ≠ .disabled →
      ∃ payload, exec (.enableZone .C z.val) s = .next (s.answer .C 0x17 .ok payload))

/-- DISABLE_ZONE of an enabled zone without an entry of port V: DISABLED, an empty set at rest on silence, enabled
no in both copies, D_cur, D_tgt, the write position, the applied factor and the target factor 0 (the target at
once, log entry 28), the EQ state STEADY, the allocation and the pages kept, and ROUTES_LOST for ports P and C by
what each lost, its entries in the order of the selection (log entry 17); with the probe's entry in the set its
run is cancelled; with an entry of port V EVAC_ACTIVE (R65, R102, R104, R105, R119, R126, R132, R156). -/
def Obligations.ZoneDisabled : Prop :=
  ∀ (z : Zone) (s : State), Takes s .C → s.powerOf z ≠ .disabled →
    let old := (s.zone z).route.entries
    ((∀ e ∈ old, e.port ≠ .V) →
      ∃ t, exec (.disableZone .C z.val) s = .next t ∧
        t.powerOf z = .disabled ∧
        (t.zone z).route = { (s.zone z).route with entries := [], fade := .atRest none } ∧
        (t.zone z).entry =
          { (s.zone z).entry with
            active := { s.active z with enabled := false }, shadow := { s.shadow z with enabled := false } } ∧
        (t.zone z).line = { dCur := 0, writePos := 0 } ∧ (t.zone z).target.tgt = 0 ∧
        (t.zone z).gain.applied = 0 ∧ (t.zone z).gain.target = 0 ∧ t.mem = s.mem ∧
        (EqInv s → (t.zone z).eq.mode = .steady) ∧
        (∀ y, y ≠ z → { t.zone y with target := (s.zone y).target, eq := (s.zone y).eq } = s.zone y) ∧
        (∀ p, p = .P ∨ p = .C →
          let lost := (old.filter fun e => decide (e.port = p)).map fun e => (e.source, e.level)
          (lost ≠ [] → Flagged s t p (.routesLost z lost)) ∧
          (lost = [] → (t.notes p)[(3 : Fin 16)] = (s.notes p)[(3 : Fin 16)])) ∧
        ((∃ e ∈ old, e.port = .C ∧ e.source = 8) → s.probe.current.zone = z → ¬ ProbeQuiet s →
          ProbeCancelled s t z .zoneDisabled) ∧
        Replies t .C 0x18 .ok) ∧
    ((∃ e ∈ old, e.port = .V) →
      exec (.disableZone .C z.val) s = .next (s.answer .C 0x18 .evacActive []))

/-- WAKE_TIME_ELAPSED and DRAIN_TIME_ELAPSED when they fall due, after their FRAME_MARK or before it: WAKING
becomes LIVE, muted, with its ramp still to come; DRAINING becomes PARKED with its gain at 0, and a wait or a
crossfade of its EQ ends on the selected bank with zero states; no other zone's power changes (R102, R105, R138,
R139, log entry 5). -/
def Obligations.PowerTimesElapse : Prop :=
  ∀ (z : Zone) (s : State),
    (∀ n, s.powerOf z = .waking n →
      (n = 0 ∨ (s.sampleIndex = 48 ∧ n = 1 ∧ (s.zone z).power.fresh = false)) →
      ∃ t, exec (.wakeTimeElapsed z) s = .next t ∧ Elsewhere z s t ∧ t.powerOf z = .live ∧
        (t.zone z).power.framesInState = 0 ∧
        (t.zone z).gain =
          { (s.zone z).gain with
            applied := 0, rampFrom := 0, rampTo := if s.sampleIndex = 0 then (s.zone z).gain.target else 0 } ∧
        (t.zone z).eq = (s.zone z).eq ∧ (t.zone z).route = (s.zone z).route) ∧
    (∀ d n, s.powerOf z = .draining d n →
      (n = 0 ∨ (s.sampleIndex = 48 ∧ n = 1 ∧ (s.zone z).power.fresh = false)) →
      ∃ t, exec (.drainTimeElapsed z) s = .next t ∧ t.powerOf z = .parked ∧
        (t.zone z).power.framesInState = 0 ∧
        (t.zone z).gain = { (s.zone z).gain with applied := 0, rampFrom := 0, rampTo := 0 } ∧
        ((s.zone z).eq.mode = .steady → (t.zone z).eq = (s.zone z).eq ∧ Elsewhere z s t) ∧
        ((s.zone z).eq.mode ≠ .steady → EqInv s →
          (t.zone z).eq = { mode := .steady, running := Cascade.setUp (s.active z) }) ∧
        ∀ y, y ≠ z → { t.zone y with eq := (s.zone y).eq } = s.zone y)

/-! ### Supervision of port V -/

/-- SUPERVISE, SUPERVISE_END and SUPERVISION_EXPIRY: the timer watches with the timeout limited to 100 to 10,000,
0 keeping the one in use, stops, or is lost; a timer that was LOST raises RESTORED or ENDED, and an expiry raises
LOST, to ports P and C. That a negative timeout counts as one below 100 is the model's choice (R179, R180, R181,
log entries 5 and 18). -/
def Obligations.SupervisionWatches : Prop :=
  ∀ s : State,
    (∀ x : Int, Takes s .V →
      let timeout := if x = 0 then s.supervision.timeout else (max 100 (min 10000 x)).toNat
      ∃ t, exec (.supervise .V x) s = .next t ∧
        t.supervision = { watch := .watching timeout, timeout := timeout, fresh := s.atMark } ∧
        t.supervisionLost = false ∧
        (s.supervision.watch = .lost → Flagged s t .P (.supervision .restored timeout) ∧
          Flagged s t .C (.supervision .restored timeout)) ∧
        (s.supervision.watch ≠ .lost → t.notes .P = s.notes .P ∧ t.notes .C = s.notes .C) ∧
        Replies t .V 0x2F (if x = 0 ∨ (100 ≤ x ∧ x ≤ 10000) then .ok else .okClamped)) ∧
    (Takes s .V →
      ∃ t, exec (.superviseEnd .V) s = .next t ∧
        t.supervision = { s.supervision with watch := .off } ∧ t.supervisionLost = false ∧
        (s.supervision.watch = .lost → Flagged s t .P (.supervision .ended s.supervision.timeout) ∧
          Flagged s t .C (.supervision .ended s.supervision.timeout)) ∧
        Replies t .V 0x30 .ok) ∧
    ((s.supervision.watch = .watching 0 ∨
        (s.sampleIndex = 48 ∧ s.supervision.watch = .watching 1 ∧ s.supervision.fresh = false)) →
      ∃ t, exec .supervisionExpiry s = .next t ∧ t.supervision = { s.supervision with watch := .lost } ∧
        t.faultLine = true ∧ Flagged s t .P (.supervision .lost s.supervision.timeout) ∧
        Flagged s t .C (.supervision .lost s.supervision.timeout))

/-! ### The alignment probe -/

/-- PROBE_SETUP writes the pending copy alone, each numeric field limited, the window to the period as limited;
PROBE_CLEAR empties the result list; PROBE_STOP acts by the state, and reports the state before (R145, R146,
R157). -/
def Obligations.ProbeCommands : Prop :=
  ∀ s : State, Takes s .C →
    (∀ (a : ProbeArg) (z : Zone) (src : Fin 8) (first : Bool), a.zone = z.val → a.source = src.val →
      choiceBool a.mode = some first →
      let period := (max 10 (min 2000 a.period)).toNat
      let exactly := inRange 10 2000 a.period && inRange 1 48 a.width && inRange (-160) 0 a.gain &&
        inRange 1 8388607 a.threshold && inRange 1 period a.window
      ∃ payload, exec (.probeSetup .C a) s = .next
        ({ s with
            probe :=
              { s.probe with
                pending :=
                  { zone := z, period := period, width := (max 1 (min 48 a.width)).toNat,
                    gain := max (-160) (min 0 a.gain), threshold := (max 1 (min 8388607 a.threshold)).toNat,
                    window := (max 1 (min (period : Int) a.window)).toNat, source := src,
                    repeating := !first } }
          }.answer .C 0x1A (if exactly then .ok else .okClamped) payload)) ∧
    exec (.probeClear .C) s =
      .next ({ s with probe := { s.probe with results := [] } }.answer .C 0x1D .ok
        (bytes4 (s.probe.results.length : Nat))) ∧
    (∀ r, s.probe.state = .idle ∨ s.probe.state = .stopping r →
      exec (.probeStop .C) s = .next (s.answer .C 0x1C .ok [byteOf s.probe.state.place])) ∧
    (∀ e, s.probe.state = .armed e →
      exec (.probeStop .C) s =
        .next ({ s with probe := { s.probe with state := .idle } }.answer .C 0x1C .ok [1#8])) ∧
    (s.probe.state = .waitingZone →
      ∃ t, exec (.probeStop .C) s = .next t ∧ t.probe = { s.probe with state := .idle } ∧
        (t.zone s.probe.current.zone).route.entries =
          ((s.zone s.probe.current.zone).route.entries.filter
            fun x => decide (¬ (x.port = .C ∧ x.source = 8))) ∧
        Replies t .C 0x1C .ok) ∧
    (∀ r, s.probe.state = .running r →
      exec (.probeStop .C) s =
        .next ({ s with probe := { s.probe with state := .stopping r } }.answer .C 0x1C .ok [3#8]))

/-- The start, the abort and the cancellation of a run. PROBE_RUN and TRIG_EDGE: with trigger the probe is ARMED
with the edge; without, and at the edge it waits for, the current copy takes the pending copy and the S8 entry is
raised in the probe zone, RUNNING at once where the zone already plays S8 at rest in LIVE and WAITING_ZONE
otherwise; a probe that is not IDLE, a DISABLED zone, an evacuation winner and a full set refuse the command, and
the last three cancel the armed run; and an edge of the other kind does nothing. A new winner at level 5 aborts a
period, and the run waits, moves to the pending zone, or ends. A new winner at level 6 or 7 cancels the run with
EVAC, and an eviction of the S8 entry with EVICTED: of the two notices of one event the removal is answered first,
the model's choice (log entry 15) (R119, R148, R149, R150, R154, R155, R156). -/
def Obligations.ProbeStarts : Prop :=
  (∀ s : State,
    let z := s.probe.pending.zone
    let started := fun t : State => t.probe.current = s.probe.pending ∧ ProbeStarted s t z ∧ Elsewhere z s t
    (Takes s .C → s.probe.state ≠ .idle → ∀ c, (∀ x, c = some x → ∃ b, choiceBool x = some b) →
      exec (.probeRun .C c) s = .next (s.answer .C 0x1B .probeBusy [])) ∧
    (Takes s .C → s.probe.state = .idle → s.powerOf z = .disabled →
      ∀ c, (∀ x, c = some x → ∃ b, choiceBool x = some b) →
      exec (.probeRun .C c) s = .next (s.answer .C 0x1B .zoneDisabled [])) ∧
    (Takes s .C → s.probe.state = .idle → s.powerOf z ≠ .disabled →
      (∀ c e, choiceBool c = some e →
        exec (.probeRun .C (some c)) s =
          .next ({ s with probe := { s.probe with state := .armed (if e then .rising else .falling) } }.answer
            .C 0x1B .ok [])) ∧
      (6 ≤ s.winnerLevel z → exec (.probeRun .C none) s = .next (s.answer .C 0x1B .evacActive [])) ∧
      (s.winnerLevel z < 6 → probeFits s z = true →
        ∃ t, exec (.probeRun .C none) s = .next t ∧ started t ∧ Replies t .C 0x1B .ok) ∧
      (s.winnerLevel z < 6 → probeFits s z = false →
        exec (.probeRun .C none) s =
          .next ({ s with probe := { s.probe with current := s.probe.pending } }.answer .C 0x1B .routeFull
            []))) ∧
    (∀ e, s.probe.state = .armed e →
      (∃ t, exec (.trigEdge e) s = .next t ∧ t.probe.current = s.probe.pending ∧ Elsewhere z s t ∧
        ProbeTriesIn s t z ∧ (t.probe.state = .idle → t.zones = s.zones)) ∧
      ∀ other, other ≠ e → exec (.trigEdge other) s = .next s)) ∧
  (∀ (p : Port) (src : Source) (s : State),
    let z := s.probe.current.zone
    let old := (s.zone z).route.entries
    Takes s p → p ≠ .P → src.val < 8 → s.powerOf z ≠ .disabled →
    old.head? = some { port := .C, source := 8, level := 5 } →
    ((∃ x ∈ old, x.port = p ∧ x.source = src) ∨ old.length < 6) →
    (∀ r, s.probe.state = .running r →
      ∃ t, exec (.routeRaise p [z.val] src.val 5) s = .next t ∧ t.probe.current = s.probe.pending ∧
        CutShort s t z ∧
        (s.probe.pending.zone = z → t.probe.state = .waitingZone) ∧
        (s.probe.pending.zone ≠ z → NoProbeEntry t z ∧ ProbeTriesIn s t s.probe.pending.zone)) ∧
    (∀ r, s.probe.state = .stopping r →
      ∃ t, exec (.routeRaise p [z.val] src.val 5) s = .next t ∧ t.probe.current = s.probe.pending ∧
        CutShort s t z ∧ t.probe.state = .idle ∧ NoProbeEntry t z)) ∧
  ∀ (src : Source) (level : Nat) (s : State),
    let z := s.probe.current.zone
    let old := (s.zone z).route.entries
    Takes s .V → src.val < 8 → s.powerOf z ≠ .disabled → ¬ ProbeQuiet s →
    (6 ≤ level → level ≤ 7 → (∀ x ∈ old, x.level < 6) →
      ((∃ x ∈ old, x.port = .V ∧ x.source = src) ∨ old.length < 6) →
      ∃ t, exec (.routeRaise .V [z.val] src.val level) s = .next t ∧ ProbeCancelled s t z .evac) ∧
    (1 ≤ level → level ≤ 7 → 6 ≤ old.length → (∀ x ∈ old, ¬ (x.port = .V ∧ x.source = src)) →
      { port := .C, source := 8, level := 5 } ∈ old →
      (∀ x ∈ old, x.port = .V ∨ x = { port := .C, source := 8, level := 5 } ∨ 5 < x.level ∨
        (x.level = 5 ∧ x.source.val < 8)) →
      ∃ t, exec (.routeRaise .V [z.val] src.val level) s = .next t ∧ ProbeCancelled s t z .evicted)

/-- PERIOD_OPEN, SAMPLE_PERIOD, WINDOW_CLOSE and PERIOD_END, each at its frame mark after the FRAME_MARK or before
it (log entry 5). A period opens with the delay at emission and an empty detection record; S8 gives the pulse for
its width and 0 at every other time; each sample of the open window feeds the crossing, with its interpolated
arrival or EARLY, the peak and OVERLOAD; a window that closes appends its result to a list of at most 16 and
raises PROBE_RESULT; a period that ends, its window closed first, copies the settings, and goes on by the state
and the new mode, in the same zone or in a new one (R147, R151, R152, R153, R154). -/
def Obligations.ProbePeriods : Prop :=
  ∀ (s : State) (stopping : Bool),
    let z := s.probe.current.zone
    let st := fun r : Run => if stopping then ProbeState.stopping r else ProbeState.running r
    let appended := fun (t : State) (w : Window) (delay : Nat) =>
      let result : ProbeResult :=
        { zone := z, status := if w.crossing.isSome then .found else .notFound,
          raw := w.crossing.map (·.raw), emission := delay, peak := w.peak,
          early := (w.crossing.map (·.early)).getD false, overload := w.overload, slewing := w.slewing }
      t.probe.results = (s.probe.results ++ [result]).drop (s.probe.results.length + 1 - 16) ∧
      Flagged s t .C (.probeResult z result.status (w.crossing.map fun c => (c.raw : Int) - (delay : Int)))
    (s.probe.state = st (.toOpen 0) →
      exec .periodOpen s = .next
        { s with
          probe :=
            { s.probe with
              state := st (.opened 0 (s.zone z).line.dCur (some
                { k := 0, prev := 0, crossing := none, peak := 0, overload := false, slewing := false })
                false) } }) ∧
    (s.openWindow = none → probeSample s = 0#24) ∧
    (∀ elapsed delay w ending, s.probe.state = st (.opened elapsed delay (some w) ending) →
      probeSample s =
        (if w.k < s.probe.current.width then BitVec.ofNat 24 (pulseLevel s.probe.current.gain) else 0#24) ∧
      (∀ x : Vector Sample 8, NothingDue s → NothingEnding s → AllocationInv s →
        let size := x[s.probe.current.source].toInt.natAbs
        let thr := s.probe.current.threshold
        let slope := size - w.prev
        ∃ t, exec (.samplePeriod x) s = .next t ∧
          t.probe =
            { s.probe with
              state := st (.opened elapsed delay (some
                { w with
                  k := w.k + 1, prev := size, peak := max w.peak size,
                  overload := w.overload || decide (8388607 ≤ size),
                  crossing :=
                    if w.crossing.isSome ∨ size < thr then w.crossing
                    else if w.k = 0 then some { raw := 0, early := true }
                    else some
                      { raw := (w.k - 1) * 64 +
                          ((2 * (64 * ((thr : Int) - (w.prev : Int))) + (slope : Int)) /
                            (2 * (slope : Int))).toNat,
                        early := false } }) ending) }) ∧
      (s.probe.current.window ≤ (if ending then elapsed + 1 else elapsed) ∨
          (s.sampleIndex = 48 ∧ s.probe.current.window ≤ elapsed + 1) →
        ∃ t, exec .windowClose s = .next t ∧ t.zones = s.zones ∧
          t.probe = { s.probe with state := st (.opened elapsed delay none ending), results := t.probe.results } ∧
          appended t w delay)) ∧
    ∀ elapsed delay window ending, s.probe.state = st (.opened elapsed delay window ending) →
      (ending = true ∨ (s.sampleIndex = 48 ∧ s.probe.current.period ≤ elapsed + 1)) →
      ∃ t, exec .periodEnd s = .next t ∧ t.probe.current = s.probe.pending ∧
        (window = none → t.probe.results = s.probe.results) ∧ (∀ w, window = some w → appended t w delay) ∧
        (stopping = false → s.probe.pending.repeating = true → s.probe.pending.zone = z →
          t.probe.state = .running (.toOpen (if ending then 0 else 1)) ∧ t.zones = s.zones) ∧
        (stopping = false → s.probe.pending.repeating = true → s.probe.pending.zone ≠ z →
          NoProbeEntry t z ∧
          ProbeTriesIn { s with atMark := s.atMark || !ending } t s.probe.pending.zone) ∧
        (stopping = true ∨ s.probe.pending.repeating = false →
          t.probe.state = .idle ∧
          (t.zone z).route.entries =
            (s.zone z).route.entries.filter fun x => decide (¬ (x.port = .C ∧ x.source = 8)))

/-- PROBE_ADOPT with at least three FOUND results of the zone and of its reference: the path length from the
difference of the medians of the latest five of each, at the zone's speed of sound, limited to 400,000 mm, goes
into a GEOMETRY change of port C with the other values of the shadow record, which is offered to the change queue
as any change is: LOCKED, merged with the entry of its key, QUEUE_FULL, or appended, and taken at once by a FREE
apply unit; with a negative difference NEGATIVE_PATH, with too few results NOT_ENOUGH, without a reference zone
NO_REFERENCE (R22 to R25, R27, R30, R159). -/
def Obligations.ProbeAdopts : Prop :=
  ∀ (z : Zone) (s : State), Takes s .C →
    ((s.shadow z).reference = none →
      exec (.probeAdopt .C z.val) s = .next (s.answer .C 0x1E .noReference [])) ∧
    ∀ r, (s.shadow z).reference = some r →
      let arrivals := fun y : Zone =>
        (s.probe.results.reverse.filter fun x => decide (x.zone = y ∧ x.status = .found)).filterMap
          fun x => x.raw.map fun n => (n : Int) - (x.emission : Int)
      let delta := median ((arrivals r).take 5) - median ((arrivals z).take 5)
      let length := (2 * (delta * (s.zone z).target.c) + 3072000) / 6144000
      ((arrivals z).length < 3 ∨ (arrivals r).length < 3 →
        exec (.probeAdopt .C z.val) s = .next (s.answer .C 0x1E .notEnough [])) ∧
      (3 ≤ (arrivals z).length → 3 ≤ (arrivals r).length → delta < 0 →
        ∃ payload, exec (.probeAdopt .C z.val) s = .next (s.answer .C 0x1E .negativePath payload)) ∧
      (3 ≤ (arrivals z).length → 3 ≤ (arrivals r).length → 0 ≤ delta → 0 ≤ (s.zone z).target.c →
        let x := s.shadow z
        let change : Change := .geometry
          { pathLength := max 0 (min 400000 length), precedence := x.precedence, trim := x.trim,
            weights := x.weights, reference := x.reference }
        let e : QueueEntry := { port := .C, zone := .one z, bypass := 0, change := change }
        let own := fun y : QueueEntry => y.port = .C ∧ y.zone = .one z ∧ y.change.kind = .geometry
        let answers := fun (u : State) (r : Result) =>
          ∃ payload, exec (.probeAdopt .C z.val) s = .next (u.answer .C 0x1E r payload)
        let result := fun r : Result => if 400000 < length then .okClamped else r
        (s.lockHolds z = true → answers s .locked) ∧
        (s.lockHolds z = false → (∃ y ∈ s.queue.entries, own y) →
          answers
            { s with
              queue :=
                { s.queue with
                  entries := s.queue.entries.map fun y : QueueEntry =>
                    if y.port = .C ∧ y.zone = .one z ∧ y.change.kind = .geometry then { y with change := change }
                    else y } }
            (result .merged)) ∧
        (s.lockHolds z = false → (∀ y ∈ s.queue.entries, ¬ own y) →
          (32 ≤ s.queue.entries.length ∨ 28 ≤ s.queue.countPC → answers s .queueFull) ∧
          (s.queue.entries.length < 32 → s.queue.countPC < 28 →
            (s.queue.hand.isSome = true →
              answers { s with queue := { s.queue with entries := s.queue.entries ++ [e] } } (result .queued)) ∧
            (s.queue.hand = none → s.queue.entries = [] →
              answers
                { s with queue := { entries := [], hand := some { entry := e, marks := 1, fresh := s.atMark } } }
                (result .queued)))))

/-! ### The preset store -/

/-- A write command of the store: in READY, with a clear fault record, past the lock and, for LOCK_ZONE, for a
VALID sector, its operation begins at once with the contents captured then, an erase phase raising the erase count
and setting the mark, and is answered OK with the sector and its erase count; otherwise it is answered STORE_BUSY,
FAULT_PENDING, LOCKED or NOT_VALID, and the refusal lowers the lock override. That a phase's time still to run, 50
and 2, is counted in frame marks (log entry 11), and that the erase count answered is the one just raised (log
entry 8), are the model's choices (R162, R163, R164, R168). -/
def Obligations.WritesBegin : Prop :=
  ∀ (i : Instr) (p : Port) (cmd : WriteCommand) (n : SectorNo) (captured : State → Contents) (s : State),
    Writes i p cmd n captured → Takes s p →
    let guardedSector := (cmd = .eraseSector ∨ cmd = .storeZone) ∧ n.val < 32 ∧ (s.sector n).lock = true ∧
      s.store.override = false
    let lowered : State := { s with store := { s.store with override := false } }
    let code := cmd.code
    (s.store.state = .ready → s.store.fault = none → ¬ guardedSector →
      (cmd = .lockZone → (s.sector n).state = .valid) →
      let count := min ((s.sector n).eraseCount + 1) 65535
      ∃ t, exec i s = .next t ∧ (∀ m, m ≠ n → t.sector m = s.sector m) ∧
        (cmd = .lockZone → t.sector n = s.sector n ∧
          t.store =
            { s.store with
              sectors := t.store.sectors, state := .locking,
              op := some
                { command := cmd, port := p, sector := n, captured := captured s, phase := .lock, left := 2 } } ∧
          Says s t p code .ok (byteOf n.val :: bytes4 ((s.sector n).eraseCount : Nat))) ∧
        (cmd ≠ .lockZone → t.sector n = { s.sector n with eraseCount := count, mark := true } ∧
          t.store =
            { s.store with
              sectors := t.store.sectors, state := .erasing,
              op := some
                { command := cmd, port := p, sector := n, captured := captured s, phase := .erase,
                  left := 50 } } ∧
          Says s t p code .ok (byteOf n.val :: bytes4 (count : Nat)))) ∧
    (s.store.state ≠ .ready → exec i s = .next (lowered.answer p code .storeBusy [])) ∧
    (s.store.state = .ready → s.store.fault ≠ none →
      exec i s = .next (lowered.answer p code .faultPending [])) ∧
    (s.store.state = .ready → s.store.fault = none → guardedSector →
      exec i s = .next (lowered.answer p code .locked [])) ∧
    (s.store.state = .ready → s.store.fault = none → cmd = .lockZone → (s.sector n).state ≠ .valid →
      exec i s = .next (lowered.answer p code .notValid []))

/-- ERASE_COMPLETE, PROGRAM_COMPLETE and LOCK_COMPLETE: a passed erase leaves the sector BLANK and unlocked and
ends an ERASE_SECTOR, or goes on to the program phase; a passed program leaves the captured contents VALID under
their check value, the mark cleared; a lock sets the lock flag; the end raises STORE_DONE, or STORE_FAULT with the
fault recorded, to the issuing port, lowers the override and returns the store to READY or, where a recall waits,
begins the first. A check value of 0 after an erase (log entry 27) and the 12 and 4 still to run, counted in frame
marks (log entry 11), are the model's choices (R161, R162, R165, R166, R167, R168). -/
def Obligations.PhasesEnd : Prop :=
  ∀ (s : State) (op : Operation), s.store.op = some op →
    let x := s.sector op.sector
    let ended := fun t : State => t.store.op = none ∧ t.store.override = false ∧ t.zones = s.zones ∧
      (∀ m, m ≠ op.sector → t.sector m = s.sector m) ∧
      (s.store.recalls = [] → t.store.state = .ready ∧ t.store.recalls = []) ∧
      ∀ first rest, s.store.recalls = first :: rest →
        t.store.state = .reading ∧ t.store.reading = some first ∧ t.store.recalls = rest
    let succeeded := fun t : State => ended t ∧ t.store.fault = s.store.fault ∧
      Flagged s t op.port (.storeDone op.command op.sector)
    let failed := fun (t : State) (kind : StoreFaultKind) => ended t ∧
      t.store.fault = some { kind := kind, command := op.command, sector := op.sector, port := op.port } ∧
      Flagged s t op.port (.storeFault op.command op.sector kind)
    let blank : Sector :=
      { x with
        lock := false, state := .blank, contents := .erased, check := 0#32,
        mark := x.mark && decide (op.command ≠ .eraseSector) }
    (s.store.state = .erasing →
      (op.command = .eraseSector →
        ∃ t, exec (.eraseComplete true) s = .next t ∧ t.sector op.sector = blank ∧ succeeded t ∧
          ∀ z, zoneSector z = op.sector → z ∉ t.store.corrupt) ∧
      (op.command ≠ .eraseSector →
        ∃ t, exec (.eraseComplete true) s = .next t ∧ t.sector op.sector = blank ∧
          (∀ m, m ≠ op.sector → t.sector m = s.sector m) ∧
          t.store =
            { s.store with
              sectors := t.store.sectors, state := .programming,
              corrupt := s.store.corrupt.filter fun z => decide (zoneSector z ≠ op.sector),
              op := some { op with phase := .program, left := if op.command = .storeZone then 12 else 4 } }) ∧
      ∃ t, exec (.eraseComplete false) s = .next t ∧ (t.sector op.sector).state = .corrupt ∧
        (t.sector op.sector).lock = false ∧ (t.sector op.sector).mark = x.mark ∧ failed t .eraseFault) ∧
    (s.store.state = .programming →
      (∃ t, exec (.programComplete true) s = .next t ∧
        t.sector op.sector =
          { x with
            state := .valid, contents := op.captured, check := op.captured.checkValue, mark := false } ∧
        succeeded t ∧ ∀ z, zoneSector z = op.sector → z ∉ t.store.corrupt) ∧
      ∃ t, exec (.programComplete false) s = .next t ∧ (t.sector op.sector).state = .corrupt ∧
        (t.sector op.sector).mark = x.mark ∧ failed t .programFault) ∧
    (s.store.state = .locking →
      (∃ t, exec (.lockComplete true) s = .next t ∧ t.sector op.sector = { x with lock := true } ∧ succeeded t) ∧
      ∃ t, exec (.lockComplete false) s = .next t ∧ t.sector op.sector = x ∧ failed t .programFault)

/-- RECALL_SCENE, SUSPENSION_EVENT and SCENE_READ_END. A recall is refused BAD_VALUE for a scene above 7,
NOT_PERMITTED for scenes 6 and 7 of port P, SECTOR_BUSY, SCENE_EMPTY, SCENE_CORRUPT or STORE_BUSY, and one of
these four sets the fault member for port V. A recall of a VALID scene is read at once in READY; otherwise it
takes its place, that of port V behind those of port V and ahead of the others, and halts a running erase or
program phase; at the suspension event the head recall is read. At the end of a sound read the scene is offered to
the change queue under the recalling port: merged into its SCENE entry, appended, or refused as full with
SCENE_FAILED; a failed check makes the sector CORRUPT and raises SCENE_FAILED to every port; a failed recall of
port V sets the fault member and a good one clears it; and the store reads the next recall, or resumes the halted
phase, or enters READY (R26, R169, R170, R171, R172). -/
def Obligations.ScenesRecalled : Prop :=
  ∀ (p : Port) (n : Fin 8) (s : State),
    let k := sceneSector n
    let mine : Recall := { port := p, scene := n }
    let halted : StoreState :=
      if s.store.state = .erasing ∨ s.store.state = .programming then .suspending else s.store.state
    let refused := fun r : Result =>
      exec (.recallScene p n.val) s =
        .next ({ s with store := { s.store with vRecallFailed := s.store.vRecallFailed || decide (p = Port.V) } }.answer
          p 0x25 r [])
    (Takes s p → ∀ m, 8 ≤ m → exec (.recallScene p m) s = .next (s.answer p 0x25 .badValue [])) ∧
    (Takes s p → p = .P → 6 ≤ n.val →
      exec (.recallScene p n.val) s = .next (s.answer p 0x25 .notPermitted [])) ∧
    (Takes s p → (p = .P → n.val ≤ 5) →
      (∀ op, s.store.op = some op → op.sector = k → refused .sectorBusy) ∧
      ((∀ op, s.store.op = some op → op.sector ≠ k) →
        ((s.sector k).state = .blank → refused .sceneEmpty) ∧
        ((s.sector k).state = .corrupt → refused .sceneCorrupt) ∧
        ((s.sector k).state = .valid →
          (4 ≤ s.store.recalls.length → refused .storeBusy) ∧
          (s.store.state = .ready → s.store.recalls = [] →
            exec (.recallScene p n.val) s = .next
              ({ s with store := { s.store with state := .reading, reading := some mine } }.answer p 0x25 .ok
                (bytes4 0))) ∧
          ∀ (vs others : List Recall), s.store.state ≠ .ready → s.store.recalls = vs ++ others →
            (∀ r ∈ vs, r.port = .V) → (∀ r ∈ others, r.port ≠ .V) → s.store.recalls.length < 4 →
            exec (.recallScene p n.val) s = .next
              ({ s with
                  store :=
                    { s.store with
                      state := halted,
                      recalls := if p = Port.V then vs ++ mine :: others else s.store.recalls ++ [mine] }
                }.answer p 0x25 .ok
                  (bytes4 ((if p = Port.V then vs.length else s.store.recalls.length) + 1 : Nat)))))) ∧
    (∀ rest, s.store.state = .suspending → s.store.recalls = mine :: rest →
      exec .suspensionEvent s = .next
        { s with store := { s.store with state := .reading, reading := some mine, recalls := rest } }) ∧
    (s.store.state = .reading → s.store.reading = some mine →
      let goOn := fun x : StoreUnit =>
        match s.store.recalls with
        | r :: rest => { x with state := .reading, reading := some r, recalls := rest }
        | [] => { x with state := (s.store.op.map fun op => op.phase.running).getD .ready, reading := none }
      let failed := fun (t : State) (why : SceneFailure) =>
        { t.store with sectors := s.store.sectors } =
          goOn { s.store with vRecallFailed := s.store.vRecallFailed || decide (p = Port.V) } ∧
        t.queue = s.queue ∧ (p = .V → t.faultLine = true) ∧ ∀ q, Flagged s t q (.sceneFailed p n why)
      (∀ items, (s.sector k).contents = .scene items →
        (Contents.scene items).checkValue = (s.sector k).check →
        let e : QueueEntry := { port := p, zone := .all, change := .scene items, bypass := 0 }
        let good := goOn { s.store with vRecallFailed := s.store.vRecallFailed && decide (p ≠ .V) }
        let mineHere := ∃ x ∈ s.queue.entries, x.port = p ∧ x.zone = .all ∧ x.change.kind = .scene
        let room := s.queue.entries.length < 32 ∧ (p = .V ∨ s.queue.countPC < 28)
        (mineHere →
          exec (.sceneReadEnd true) s = .next
            { s with
              store := good,
              queue :=
                { s.queue with
                  entries := s.queue.entries.map fun x : QueueEntry =>
                    if x.port = p ∧ x.zone = .all ∧ x.change.kind = .scene then
                      { x with change := .scene items }
                    else x } }) ∧
        (¬ mineHere → room → s.queue.hand.isSome = true →
          exec (.sceneReadEnd true) s = .next
            { s with store := good, queue := { s.queue with entries := s.queue.entries ++ [e] } }) ∧
        (s.queue.hand = none → s.queue.entries = [] →
          exec (.sceneReadEnd true) s = .next
            { s with
              store := good,
              queue := { entries := [], hand := some { entry := e, marks := 4, fresh := s.atMark } } }) ∧
        (¬ mineHere → ¬ room →
          ∃ t, exec (.sceneReadEnd true) s = .next t ∧ t.store.sectors = s.store.sectors ∧
            failed t .queueFull)) ∧
      ∀ sound, (sound = false ∨ ∀ items, (s.sector k).contents = .scene items →
          (Contents.scene items).checkValue ≠ (s.sector k).check) →
        ∃ t, exec (.sceneReadEnd sound) s = .next t ∧ (t.sector k).state = .corrupt ∧
          (∀ m, m ≠ k → t.sector m = s.sector m) ∧ failed t .corrupt)

/-! ### Notifications -/

/-- An event reaches a port by the enable of its kind alone; the notify line and the lead event follow the set
flags; NOTE_SETUP sets the enable and the level of one kind of its port, a negative level limited to 0 being the
model's choice (log entry 27), and NOTE_CLEAR clears the kinds named (R182, R183, R184, R185). -/
def Obligations.NotesFollow : Prop :=
  ∀ (p : Port) (s : State),
    (∀ d : Detail,
      ((s.notes p)[d.kind].enable = true → ((s.raise p d).notes p)[d.kind] =
        { (s.notes p)[d.kind] with detail := some d, count := min ((s.notes p)[d.kind].count + 1) 255 }) ∧
      ((s.notes p)[d.kind].enable = false → s.raise p d = s) ∧
      (∀ k : Fin 16, k ≠ d.kind → ((s.raise p d).notes p)[k] = (s.notes p)[k])) ∧
    (s.notifyLine p = true ↔ ∃ k : Fin 16, (s.notes p)[k].detail.isSome = true ∧ 1 ≤ (s.notes p)[k].level) ∧
    (∀ k : Fin 16, s.leadEvent p = some k ↔ (s.notes p)[k].detail.isSome = true ∧
      ∀ m : Fin 16, (s.notes p)[m].detail.isSome = true →
        (s.notes p)[m].level < (s.notes p)[k].level ∨
          ((s.notes p)[m].level = (s.notes p)[k].level ∧ k.val ≤ m.val)) ∧
    (Takes s p → ∀ (k : Fin 16) (c : Choice) (e : Bool) (x : Int), choiceBool c = some e →
      let level := (max 0 (min 7 x)).toNat
      ∃ t, exec (.noteSetup p (k.val + 1) c x) s = .next t ∧
        (∀ m : Fin 16, (t.notes p)[m] =
          if m = k then { (s.notes p)[k] with enable := e, level := level } else (s.notes p)[m]) ∧
        (∀ q, q ≠ p → t.port q = s.port q) ∧
        Replies t p 0x2C (if 0 ≤ x ∧ x ≤ 7 then .ok else .okClamped)) ∧
    (Takes s p → ∀ l : List Nat, (∀ n ∈ l, 1 ≤ n ∧ n ≤ 16) →
      ∃ t, exec (.noteClear p l) s = .next t ∧
        (∀ m : Fin 16, (t.notes p)[m] =
          if m.val + 1 ∈ l then { (s.notes p)[m] with detail := none, count := 0 } else (s.notes p)[m]) ∧
        (∀ q, q ≠ p → t.port q = s.port q) ∧ Replies t p 0x2E .ok)

/-! ### Control links -/

/-- BYTE_RECEIVED: from HUNT, the bytes of a frame (SYNC, LENGTH, a body of 1 to 257 bytes, CHECK), each with its
stop bit high, leave the receiver with the whole frame, and nothing else changes; in LENGTH, BODY or CHECK a byte
with its stop bit low, and a LENGTH of 0 or above 257, discard the frame with LINK_ERROR; in HUNT any other byte
is discarded. And CHECK is the CRC-16 of LENGTH and body, bit by bit from 0xFFFF with the polynomial 0x1021 (R186,
R187). -/
def Obligations.FramesGathered : Prop :=
  (∀ (p : Port) (s : State),
    ((s.port p).link.rx = .hunt →
      (∀ body check : List Byte, 1 ≤ body.length → body.length ≤ 257 → check.length = 2 →
        (0xA5#8 :: (bytes2 body.length ++ body ++ check)).foldl
          (fun (o : Answer) b => match o with
            | .next u => exec (.byteReceived p b true) u
            | stop => stop) (.next s) =
        .next (s.updLink p fun l => { l with rx := .whole body check })) ∧
      ∀ (b : Byte) (stopHigh : Bool), (b ≠ 0xA5#8 ∨ stopHigh = false) →
        exec (.byteReceived p b stopHigh) s = .next s) ∧
    (∀ b got, ((s.port p).link.rx = .length got ∨ (∃ n, (s.port p).link.rx = .body n got) ∨
        (∃ body, (s.port p).link.rx = .check body got)) →
      exec (.byteReceived p b false) s =
        .next ((s.updLink p fun l => { l with rx := .hunt }).raise p (.linkError .framing))) ∧
    ∀ a b : Byte, (s.port p).link.rx = .length [a] → (a.toNat * 256 + b.toNat = 0 ∨ 257 < a.toNat * 256 + b.toNat) →
      exec (.byteReceived p b true) s =
        .next ((s.updLink p fun l => { l with rx := .hunt }).raise p (.linkError .length))) ∧
  ∀ body : List Byte,
    let bits := (bytes2 body.length ++ body).flatMap fun b => (List.range 8).map fun i => b.getMsbD i
    let crc := bits.foldl
      (fun (r : BitVec 16) bit => if r.msb != bit then (r <<< 1) ^^^ 0x1021#16 else r <<< 1) 0xFFFF#16
    checkBytes body = bytes2 crc.toNat

/-- FRAME_RECEIVED, RESPONSE_SENT, LINK_GAP and UNKNOWN_COMMAND: a frame whose CHECK matches is buffered, and
taken as a command at once where the transmitter is idle and no other frame waits; with two frames buffered it is
discarded with OVERRUN, and where CHECK does not match with CHECK; the end of a response takes the oldest buffered
frame; a gap discards a frame in progress; a CMD that names no command is answered so at all times, and a payload
that does not hold its command's parameters STARTING, NOT_PERMITTED or BAD_VALUE, in this order. A row of a
command taken while a response is being sent ends that response first, which is the model's choice for a row that
R188 lets wait (log entry 3) (R186, R187, R188, R189). -/
def Obligations.LinksAnswer : Prop :=
  ∀ (p : Port) (s : State),
    let link := (s.port p).link
    let idle := s.updLink p fun l => { l with rx := .hunt }
    (∀ (cmd : Byte) (payload : List Byte) (check : List Byte), link.rx = .whole (cmd :: payload) check →
      (check = checkBytes (cmd :: payload) →
        (link.tx = none → link.buffer = [] →
          (∀ i, decodeCommand p cmd payload = .command i → exec (.frameReceived p) s = exec i idle) ∧
          (cmd.toNat = 0 ∨ 0x32 < cmd.toNat →
            exec (.frameReceived p) s = .next (idle.respond p
              { cmd := cmd ||| 0x80#8, result := .unknownCommand, payload := [], restarts := false })) ∧
          (decodeCommand p cmd payload = .malformed →
            let u : State :=
              if 0x20 ≤ cmd.toNat ∧ cmd.toNat ≤ 0x24 then
                { idle with store := { idle.store with override := false } }
              else idle
            exec (.frameReceived p) s = .next (u.answer p cmd.toNat
              (if s.starting then .starting else if portMay s p cmd.toNat then .badValue else .notPermitted)
              []))) ∧
        (link.tx.isSome = true → link.buffer.length < 2 →
          exec (.frameReceived p) s = .next (s.updLink p fun l =>
            { l with rx := .hunt, buffer := l.buffer ++ [{ cmd := cmd, payload := payload }] })) ∧
        (2 ≤ link.buffer.length →
          exec (.frameReceived p) s = .next (idle.raise p (.linkError .overrun)))) ∧
      (check ≠ checkBytes (cmd :: payload) →
        exec (.frameReceived p) s = .next (idle.raise p (.linkError .check)))) ∧
    (∀ r, link.tx = some r → r.restarts = false →
      (link.buffer = [] → exec (.responseSent p) s = .next (s.updLink p fun l => { l with tx := none })) ∧
      ∀ f rest i, link.buffer = f :: rest → decodeCommand p f.cmd f.payload = .command i →
        exec (.responseSent p) s = exec i (s.updLink p fun l => { l with tx := none, buffer := rest })) ∧
    ((∃ got, link.rx = .length got) ∨ (∃ n got, link.rx = .body n got) ∨ (∃ body got, link.rx = .check body got) →
      exec (.linkGap p) s = .next (idle.raise p (.linkError .gap))) ∧
    (∀ cmd : Byte, (cmd.toNat = 0 ∨ 0x32 < cmd.toNat) → link.tx = none →
      exec (.unknownCommand p cmd) s = .next (s.respond p
        { cmd := cmd ||| 0x80#8, result := .unknownCommand, payload := [], restarts := false })) ∧
    ∀ i : Instr, (commandPort i = some p ∨
        ∃ cmd, i = .unknownCommand p cmd ∧ (cmd.toNat = 0 ∨ 0x32 < cmd.toNat)) →
      link.tx.isSome = true → exec i s = andThen (exec (.responseSent p) s) (exec i)
end

