-- ==== Sys2Proof/Laws/Codec.lean ====
section
/-! SUPPORT. Each reader of payload bytes reads back what its writer writes, and leaves the bytes that follow. -/

namespace Sys2Proof

theorem byteOf_toNat {n : Nat} (h : n < 256) : (byteOf n).toNat = n := by
  simp only [byteOf, BitVec.toNat_ofNat]
  omega

@[simp] theorem readByte_cons (b : Byte) (r : List Byte) : readByte (b :: r) = some (b.toNat, r) := rfl

theorem readByte_byteOf {n : Nat} (h : n < 256) (r : List Byte) : readByte (byteOf n :: r) = some (n, r) := by
  rw [readByte_cons, byteOf_toNat h]

theorem readWord_bytes2 {n : Nat} (h : n < 65536) (r : List Byte) : readWord (bytes2 n ++ r) = some (n, r) := by
  simp only [bytes2, List.cons_append, List.nil_append, readWord, byteOf, BitVec.toNat_ofNat, Option.some.injEq,
    Prod.mk.injEq, and_true]
  omega

/-- Four bytes of a word, joined, are the word. -/
theorem join4 (x : BitVec 32) :
    (byteOf (x.toNat / 16777216) ++ byteOf (x.toNat / 65536) ++ byteOf (x.toNat / 256) ++ byteOf x.toNat : BitVec 32)
      = x := by
  apply BitVec.eq_of_toNat_eq
  have hx := x.isLt
  simp only [byteOf, BitVec.toNat_append, BitVec.toNat_ofNat]
  rw [← Nat.shiftLeft_add_eq_or_of_lt (Nat.mod_lt _ (by decide)), Nat.shiftLeft_eq,
    ← Nat.shiftLeft_add_eq_or_of_lt (Nat.mod_lt _ (by decide)), Nat.shiftLeft_eq,
    ← Nat.shiftLeft_add_eq_or_of_lt (Nat.mod_lt _ (by decide)), Nat.shiftLeft_eq]
  omega

theorem readQuantity_bytes4 {x : Int} (h : -2147483648 ≤ x ∧ x ≤ 2147483647) (r : List Byte) :
    readQuantity (bytes4 x ++ r) = some (x, r) := by
  simp only [bytes4, List.cons_append, List.nil_append, readQuantity, join4, BitVec.toInt_ofInt]
  rw [Int.bmod_eq_of_le (by omega) (by omega)]

/-- Three bytes of a coefficient, joined, are the coefficient. -/
theorem join3 (x : Coef) : (byteOf (x.toNat / 65536) ++ byteOf (x.toNat / 256) ++ byteOf x.toNat : Coef) = x := by
  apply BitVec.eq_of_toNat_eq
  have hx := x.isLt
  simp only [byteOf, BitVec.toNat_append, BitVec.toNat_ofNat]
  rw [← Nat.shiftLeft_add_eq_or_of_lt (Nat.mod_lt _ (by decide)), Nat.shiftLeft_eq,
    ← Nat.shiftLeft_add_eq_or_of_lt (Nat.mod_lt _ (by decide)), Nat.shiftLeft_eq]
  omega

theorem readCoef_bytes3 (x : Coef) (r : List Byte) : readCoef (bytes3 x ++ r) = some (x, r) := by
  simp only [bytes3, List.cons_append, List.nil_append, readCoef, join3]

theorem readChoice_bytesChoice (c : Choice) (r : List Byte) : readChoice (bytesChoice c ++ r) = some (c, r) := by
  cases c <;> rfl

theorem readZoneSel_bytesZoneSel {z : ZoneSel} (h : ∀ n, z = .zone n → n < 255) (r : List Byte) :
    readZoneSel (bytesZoneSel z ++ r) = some (z, r) := by
  cases z with
  | all => rfl
  | zone n =>
    have hn := h n rfl
    have ne : byteOf n ≠ 0xFF#8 := fun e => by
      have := congrArg BitVec.toNat e
      rw [byteOf_toNat (by omega)] at this
      have : n = 255 := this
      omega
    simp only [bytesZoneSel, List.cons_append, List.nil_append, readZoneSel, ne, if_false,
      byteOf_toNat (show n < 256 by omega)]

/-- An optional part, where its own reader reads back its own bytes. -/
theorem readOption_bytesOption {α : Type} {f : Reader α} {g : α → List Byte} (o : Option α)
    (h : ∀ a, o = some a → ∀ r, f (g a ++ r) = some (a, r)) (r : List Byte) :
    readOption f (bytesOption g o ++ r) = some (o, r) := by
  cases o with
  | none => rfl
  | some a => simp [bytesOption, readOption, h a rfl]

/-- Items one after another, where the reader of one reads back its bytes. -/
theorem readTimes_flatMap {α : Type} {f : Reader α} {g : α → List Byte} (l : List α)
    (h : ∀ a ∈ l, ∀ r, f (g a ++ r) = some (a, r)) (r : List Byte) :
    readTimes f l.length (l.flatMap g ++ r) = some (l, r) := by
  induction l with
  | nil => rfl
  | cons a l ih =>
    have ih := ih fun b hb => h b (List.mem_cons_of_mem _ hb)
    simp [readTimes, h a List.mem_cons_self, ih]

/-- A list of bytes with its count. -/
theorem readList_bytesList (l : List Nat) (hl : l.length < 256) (h : ∀ n ∈ l, n < 256) (r : List Byte) :
    readList (bytesList (fun n => [byteOf n]) l ++ r) = some (l, r) := by
  simp only [bytesList, List.cons_append, readList, byteOf_toNat hl]
  exact readTimes_flatMap l (fun a ha r => readByte_byteOf (h a ha) r) r

/-- A zone set. -/
theorem readZoneSet_bytesList (l : List Nat) (hl : l.length ≤ 32) (h : ∀ n ∈ l, n < 256) (r : List Byte) :
    readZoneSet (bytesList (fun n => [byteOf n]) l ++ r) = some (l, r) := by
  simp only [bytesList, List.cons_append, readZoneSet, byteOf_toNat (show l.length < 256 by omega), hl, if_true]
  exact readTimes_flatMap l (fun a ha r => readByte_byteOf (h a ha) r) r

/-- Two values one after another. -/
theorem readPair_append {α β : Type} {f : Reader α} {g : Reader β} {a : α} {b : β} {x y : List Byte}
    (hf : ∀ r, f (x ++ r) = some (a, r)) (hg : ∀ r, g (y ++ r) = some (b, r)) (r : List Byte) :
    readPair f g (x ++ y ++ r) = some ((a, b), r) := by
  simp [readPair, List.append_assoc, hf, hg]

/-- The whole payload read by a reader that reads it back. -/
theorem readAll_of {α : Type} {f : Reader α} {a : α} {x : List Byte} (h : ∀ r, f (x ++ r) = some (a, r)) :
    readAll f x = some a := by
  have := h []
  rw [List.append_nil] at this
  simp [readAll, this]

end Sys2Proof
end

