-- ==== Sys2Proof/Laws/State.lean ====
section
/-! SUPPORT. One lemma per field per update of the state, each true by definition. -/

namespace Sys2Proof.Machine

variable (s : State)

/-! #### `State.updZone` -/

@[simp] theorem State.updZone_pending (z : Zone) (f : ZoneState → ZoneState) :
    (s.updZone z f).pending = s.pending := rfl
@[simp] theorem State.updZone_queue (z : Zone) (f : ZoneState → ZoneState) :
    (s.updZone z f).queue = s.queue := rfl
@[simp] theorem State.updZone_mem (z : Zone) (f : ZoneState → ZoneState) :
    (s.updZone z f).mem = s.mem := rfl
@[simp] theorem State.updZone_eqWait (z : Zone) (f : ZoneState → ZoneState) :
    (s.updZone z f).eqWait = s.eqWait := rfl
@[simp] theorem State.updZone_history (z : Zone) (f : ZoneState → ZoneState) :
    (s.updZone z f).history = s.history := rfl
@[simp] theorem State.updZone_temp (z : Zone) (f : ZoneState → ZoneState) :
    (s.updZone z f).temp = s.temp := rfl
@[simp] theorem State.updZone_settings (z : Zone) (f : ZoneState → ZoneState) :
    (s.updZone z f).settings = s.settings := rfl
@[simp] theorem State.updZone_probe (z : Zone) (f : ZoneState → ZoneState) :
    (s.updZone z f).probe = s.probe := rfl
@[simp] theorem State.updZone_store (z : Zone) (f : ZoneState → ZoneState) :
    (s.updZone z f).store = s.store := rfl
@[simp] theorem State.updZone_ports (z : Zone) (f : ZoneState → ZoneState) :
    (s.updZone z f).ports = s.ports := rfl
@[simp] theorem State.updZone_supervision (z : Zone) (f : ZoneState → ZoneState) :
    (s.updZone z f).supervision = s.supervision := rfl
@[simp] theorem State.updZone_lastReset (z : Zone) (f : ZoneState → ZoneState) :
    (s.updZone z f).lastReset = s.lastReset := rfl
@[simp] theorem State.updZone_sampleIndex (z : Zone) (f : ZoneState → ZoneState) :
    (s.updZone z f).sampleIndex = s.sampleIndex := rfl
@[simp] theorem State.updZone_atMark (z : Zone) (f : ZoneState → ZoneState) :
    (s.updZone z f).atMark = s.atMark := rfl
@[simp] theorem State.updZone_tdmOut (z : Zone) (f : ZoneState → ZoneState) :
    (s.updZone z f).tdmOut = s.tdmOut := rfl
@[simp] theorem State.updZone_ampSent (z : Zone) (f : ZoneState → ZoneState) :
    (s.updZone z f).ampSent = s.ampSent := rfl

/-! #### `State.updEntry` -/

@[simp] theorem State.updEntry_pending (z : Zone) (f : TableEntry → TableEntry) :
    (s.updEntry z f).pending = s.pending := rfl
@[simp] theorem State.updEntry_queue (z : Zone) (f : TableEntry → TableEntry) :
    (s.updEntry z f).queue = s.queue := rfl
@[simp] theorem State.updEntry_mem (z : Zone) (f : TableEntry → TableEntry) :
    (s.updEntry z f).mem = s.mem := rfl
@[simp] theorem State.updEntry_eqWait (z : Zone) (f : TableEntry → TableEntry) :
    (s.updEntry z f).eqWait = s.eqWait := rfl
@[simp] theorem State.updEntry_history (z : Zone) (f : TableEntry → TableEntry) :
    (s.updEntry z f).history = s.history := rfl
@[simp] theorem State.updEntry_temp (z : Zone) (f : TableEntry → TableEntry) :
    (s.updEntry z f).temp = s.temp := rfl
@[simp] theorem State.updEntry_settings (z : Zone) (f : TableEntry → TableEntry) :
    (s.updEntry z f).settings = s.settings := rfl
@[simp] theorem State.updEntry_probe (z : Zone) (f : TableEntry → TableEntry) :
    (s.updEntry z f).probe = s.probe := rfl
@[simp] theorem State.updEntry_store (z : Zone) (f : TableEntry → TableEntry) :
    (s.updEntry z f).store = s.store := rfl
@[simp] theorem State.updEntry_ports (z : Zone) (f : TableEntry → TableEntry) :
    (s.updEntry z f).ports = s.ports := rfl
@[simp] theorem State.updEntry_supervision (z : Zone) (f : TableEntry → TableEntry) :
    (s.updEntry z f).supervision = s.supervision := rfl
@[simp] theorem State.updEntry_lastReset (z : Zone) (f : TableEntry → TableEntry) :
    (s.updEntry z f).lastReset = s.lastReset := rfl
@[simp] theorem State.updEntry_sampleIndex (z : Zone) (f : TableEntry → TableEntry) :
    (s.updEntry z f).sampleIndex = s.sampleIndex := rfl
@[simp] theorem State.updEntry_atMark (z : Zone) (f : TableEntry → TableEntry) :
    (s.updEntry z f).atMark = s.atMark := rfl
@[simp] theorem State.updEntry_tdmOut (z : Zone) (f : TableEntry → TableEntry) :
    (s.updEntry z f).tdmOut = s.tdmOut := rfl
@[simp] theorem State.updEntry_ampSent (z : Zone) (f : TableEntry → TableEntry) :
    (s.updEntry z f).ampSent = s.ampSent := rfl

/-! #### `State.updTarget` -/

@[simp] theorem State.updTarget_pending (z : Zone) (f : TargetState → TargetState) :
    (s.updTarget z f).pending = s.pending := rfl
@[simp] theorem State.updTarget_queue (z : Zone) (f : TargetState → TargetState) :
    (s.updTarget z f).queue = s.queue := rfl
@[simp] theorem State.updTarget_mem (z : Zone) (f : TargetState → TargetState) :
    (s.updTarget z f).mem = s.mem := rfl
@[simp] theorem State.updTarget_eqWait (z : Zone) (f : TargetState → TargetState) :
    (s.updTarget z f).eqWait = s.eqWait := rfl
@[simp] theorem State.updTarget_history (z : Zone) (f : TargetState → TargetState) :
    (s.updTarget z f).history = s.history := rfl
@[simp] theorem State.updTarget_temp (z : Zone) (f : TargetState → TargetState) :
    (s.updTarget z f).temp = s.temp := rfl
@[simp] theorem State.updTarget_settings (z : Zone) (f : TargetState → TargetState) :
    (s.updTarget z f).settings = s.settings := rfl
@[simp] theorem State.updTarget_probe (z : Zone) (f : TargetState → TargetState) :
    (s.updTarget z f).probe = s.probe := rfl
@[simp] theorem State.updTarget_store (z : Zone) (f : TargetState → TargetState) :
    (s.updTarget z f).store = s.store := rfl
@[simp] theorem State.updTarget_ports (z : Zone) (f : TargetState → TargetState) :
    (s.updTarget z f).ports = s.ports := rfl
@[simp] theorem State.updTarget_supervision (z : Zone) (f : TargetState → TargetState) :
    (s.updTarget z f).supervision = s.supervision := rfl
@[simp] theorem State.updTarget_lastReset (z : Zone) (f : TargetState → TargetState) :
    (s.updTarget z f).lastReset = s.lastReset := rfl
@[simp] theorem State.updTarget_sampleIndex (z : Zone) (f : TargetState → TargetState) :
    (s.updTarget z f).sampleIndex = s.sampleIndex := rfl
@[simp] theorem State.updTarget_atMark (z : Zone) (f : TargetState → TargetState) :
    (s.updTarget z f).atMark = s.atMark := rfl
@[simp] theorem State.updTarget_tdmOut (z : Zone) (f : TargetState → TargetState) :
    (s.updTarget z f).tdmOut = s.tdmOut := rfl
@[simp] theorem State.updTarget_ampSent (z : Zone) (f : TargetState → TargetState) :
    (s.updTarget z f).ampSent = s.ampSent := rfl

/-! #### `State.updLine` -/

@[simp] theorem State.updLine_pending (z : Zone) (f : LineState → LineState) :
    (s.updLine z f).pending = s.pending := rfl
@[simp] theorem State.updLine_queue (z : Zone) (f : LineState → LineState) :
    (s.updLine z f).queue = s.queue := rfl
@[simp] theorem State.updLine_mem (z : Zone) (f : LineState → LineState) :
    (s.updLine z f).mem = s.mem := rfl
@[simp] theorem State.updLine_eqWait (z : Zone) (f : LineState → LineState) :
    (s.updLine z f).eqWait = s.eqWait := rfl
@[simp] theorem State.updLine_history (z : Zone) (f : LineState → LineState) :
    (s.updLine z f).history = s.history := rfl
@[simp] theorem State.updLine_temp (z : Zone) (f : LineState → LineState) :
    (s.updLine z f).temp = s.temp := rfl
@[simp] theorem State.updLine_settings (z : Zone) (f : LineState → LineState) :
    (s.updLine z f).settings = s.settings := rfl
@[simp] theorem State.updLine_probe (z : Zone) (f : LineState → LineState) :
    (s.updLine z f).probe = s.probe := rfl
@[simp] theorem State.updLine_store (z : Zone) (f : LineState → LineState) :
    (s.updLine z f).store = s.store := rfl
@[simp] theorem State.updLine_ports (z : Zone) (f : LineState → LineState) :
    (s.updLine z f).ports = s.ports := rfl
@[simp] theorem State.updLine_supervision (z : Zone) (f : LineState → LineState) :
    (s.updLine z f).supervision = s.supervision := rfl
@[simp] theorem State.updLine_lastReset (z : Zone) (f : LineState → LineState) :
    (s.updLine z f).lastReset = s.lastReset := rfl
@[simp] theorem State.updLine_sampleIndex (z : Zone) (f : LineState → LineState) :
    (s.updLine z f).sampleIndex = s.sampleIndex := rfl
@[simp] theorem State.updLine_atMark (z : Zone) (f : LineState → LineState) :
    (s.updLine z f).atMark = s.atMark := rfl
@[simp] theorem State.updLine_tdmOut (z : Zone) (f : LineState → LineState) :
    (s.updLine z f).tdmOut = s.tdmOut := rfl
@[simp] theorem State.updLine_ampSent (z : Zone) (f : LineState → LineState) :
    (s.updLine z f).ampSent = s.ampSent := rfl

/-! #### `State.updEq` -/

@[simp] theorem State.updEq_pending (z : Zone) (f : EqState → EqState) :
    (s.updEq z f).pending = s.pending := rfl
@[simp] theorem State.updEq_queue (z : Zone) (f : EqState → EqState) :
    (s.updEq z f).queue = s.queue := rfl
@[simp] theorem State.updEq_mem (z : Zone) (f : EqState → EqState) :
    (s.updEq z f).mem = s.mem := rfl
@[simp] theorem State.updEq_eqWait (z : Zone) (f : EqState → EqState) :
    (s.updEq z f).eqWait = s.eqWait := rfl
@[simp] theorem State.updEq_history (z : Zone) (f : EqState → EqState) :
    (s.updEq z f).history = s.history := rfl
@[simp] theorem State.updEq_temp (z : Zone) (f : EqState → EqState) :
    (s.updEq z f).temp = s.temp := rfl
@[simp] theorem State.updEq_settings (z : Zone) (f : EqState → EqState) :
    (s.updEq z f).settings = s.settings := rfl
@[simp] theorem State.updEq_probe (z : Zone) (f : EqState → EqState) :
    (s.updEq z f).probe = s.probe := rfl
@[simp] theorem State.updEq_store (z : Zone) (f : EqState → EqState) :
    (s.updEq z f).store = s.store := rfl
@[simp] theorem State.updEq_ports (z : Zone) (f : EqState → EqState) :
    (s.updEq z f).ports = s.ports := rfl
@[simp] theorem State.updEq_supervision (z : Zone) (f : EqState → EqState) :
    (s.updEq z f).supervision = s.supervision := rfl
@[simp] theorem State.updEq_lastReset (z : Zone) (f : EqState → EqState) :
    (s.updEq z f).lastReset = s.lastReset := rfl
@[simp] theorem State.updEq_sampleIndex (z : Zone) (f : EqState → EqState) :
    (s.updEq z f).sampleIndex = s.sampleIndex := rfl
@[simp] theorem State.updEq_atMark (z : Zone) (f : EqState → EqState) :
    (s.updEq z f).atMark = s.atMark := rfl
@[simp] theorem State.updEq_tdmOut (z : Zone) (f : EqState → EqState) :
    (s.updEq z f).tdmOut = s.tdmOut := rfl
@[simp] theorem State.updEq_ampSent (z : Zone) (f : EqState → EqState) :
    (s.updEq z f).ampSent = s.ampSent := rfl

/-! #### `State.updGain` -/

@[simp] theorem State.updGain_pending (z : Zone) (f : GainState → GainState) :
    (s.updGain z f).pending = s.pending := rfl
@[simp] theorem State.updGain_queue (z : Zone) (f : GainState → GainState) :
    (s.updGain z f).queue = s.queue := rfl
@[simp] theorem State.updGain_mem (z : Zone) (f : GainState → GainState) :
    (s.updGain z f).mem = s.mem := rfl
@[simp] theorem State.updGain_eqWait (z : Zone) (f : GainState → GainState) :
    (s.updGain z f).eqWait = s.eqWait := rfl
@[simp] theorem State.updGain_history (z : Zone) (f : GainState → GainState) :
    (s.updGain z f).history = s.history := rfl
@[simp] theorem State.updGain_temp (z : Zone) (f : GainState → GainState) :
    (s.updGain z f).temp = s.temp := rfl
@[simp] theorem State.updGain_settings (z : Zone) (f : GainState → GainState) :
    (s.updGain z f).settings = s.settings := rfl
@[simp] theorem State.updGain_probe (z : Zone) (f : GainState → GainState) :
    (s.updGain z f).probe = s.probe := rfl
@[simp] theorem State.updGain_store (z : Zone) (f : GainState → GainState) :
    (s.updGain z f).store = s.store := rfl
@[simp] theorem State.updGain_ports (z : Zone) (f : GainState → GainState) :
    (s.updGain z f).ports = s.ports := rfl
@[simp] theorem State.updGain_supervision (z : Zone) (f : GainState → GainState) :
    (s.updGain z f).supervision = s.supervision := rfl
@[simp] theorem State.updGain_lastReset (z : Zone) (f : GainState → GainState) :
    (s.updGain z f).lastReset = s.lastReset := rfl
@[simp] theorem State.updGain_sampleIndex (z : Zone) (f : GainState → GainState) :
    (s.updGain z f).sampleIndex = s.sampleIndex := rfl
@[simp] theorem State.updGain_atMark (z : Zone) (f : GainState → GainState) :
    (s.updGain z f).atMark = s.atMark := rfl
@[simp] theorem State.updGain_tdmOut (z : Zone) (f : GainState → GainState) :
    (s.updGain z f).tdmOut = s.tdmOut := rfl
@[simp] theorem State.updGain_ampSent (z : Zone) (f : GainState → GainState) :
    (s.updGain z f).ampSent = s.ampSent := rfl

/-! #### `State.updRoute` -/

@[simp] theorem State.updRoute_pending (z : Zone) (f : RouteState → RouteState) :
    (s.updRoute z f).pending = s.pending := rfl
@[simp] theorem State.updRoute_queue (z : Zone) (f : RouteState → RouteState) :
    (s.updRoute z f).queue = s.queue := rfl
@[simp] theorem State.updRoute_mem (z : Zone) (f : RouteState → RouteState) :
    (s.updRoute z f).mem = s.mem := rfl
@[simp] theorem State.updRoute_eqWait (z : Zone) (f : RouteState → RouteState) :
    (s.updRoute z f).eqWait = s.eqWait := rfl
@[simp] theorem State.updRoute_history (z : Zone) (f : RouteState → RouteState) :
    (s.updRoute z f).history = s.history := rfl
@[simp] theorem State.updRoute_temp (z : Zone) (f : RouteState → RouteState) :
    (s.updRoute z f).temp = s.temp := rfl
@[simp] theorem State.updRoute_settings (z : Zone) (f : RouteState → RouteState) :
    (s.updRoute z f).settings = s.settings := rfl
@[simp] theorem State.updRoute_probe (z : Zone) (f : RouteState → RouteState) :
    (s.updRoute z f).probe = s.probe := rfl
@[simp] theorem State.updRoute_store (z : Zone) (f : RouteState → RouteState) :
    (s.updRoute z f).store = s.store := rfl
@[simp] theorem State.updRoute_ports (z : Zone) (f : RouteState → RouteState) :
    (s.updRoute z f).ports = s.ports := rfl
@[simp] theorem State.updRoute_supervision (z : Zone) (f : RouteState → RouteState) :
    (s.updRoute z f).supervision = s.supervision := rfl
@[simp] theorem State.updRoute_lastReset (z : Zone) (f : RouteState → RouteState) :
    (s.updRoute z f).lastReset = s.lastReset := rfl
@[simp] theorem State.updRoute_sampleIndex (z : Zone) (f : RouteState → RouteState) :
    (s.updRoute z f).sampleIndex = s.sampleIndex := rfl
@[simp] theorem State.updRoute_atMark (z : Zone) (f : RouteState → RouteState) :
    (s.updRoute z f).atMark = s.atMark := rfl
@[simp] theorem State.updRoute_tdmOut (z : Zone) (f : RouteState → RouteState) :
    (s.updRoute z f).tdmOut = s.tdmOut := rfl
@[simp] theorem State.updRoute_ampSent (z : Zone) (f : RouteState → RouteState) :
    (s.updRoute z f).ampSent = s.ampSent := rfl

/-! #### `State.updPower` -/

@[simp] theorem State.updPower_pending (z : Zone) (f : PowerUnit → PowerUnit) :
    (s.updPower z f).pending = s.pending := rfl
@[simp] theorem State.updPower_queue (z : Zone) (f : PowerUnit → PowerUnit) :
    (s.updPower z f).queue = s.queue := rfl
@[simp] theorem State.updPower_mem (z : Zone) (f : PowerUnit → PowerUnit) :
    (s.updPower z f).mem = s.mem := rfl
@[simp] theorem State.updPower_eqWait (z : Zone) (f : PowerUnit → PowerUnit) :
    (s.updPower z f).eqWait = s.eqWait := rfl
@[simp] theorem State.updPower_history (z : Zone) (f : PowerUnit → PowerUnit) :
    (s.updPower z f).history = s.history := rfl
@[simp] theorem State.updPower_temp (z : Zone) (f : PowerUnit → PowerUnit) :
    (s.updPower z f).temp = s.temp := rfl
@[simp] theorem State.updPower_settings (z : Zone) (f : PowerUnit → PowerUnit) :
    (s.updPower z f).settings = s.settings := rfl
@[simp] theorem State.updPower_probe (z : Zone) (f : PowerUnit → PowerUnit) :
    (s.updPower z f).probe = s.probe := rfl
@[simp] theorem State.updPower_store (z : Zone) (f : PowerUnit → PowerUnit) :
    (s.updPower z f).store = s.store := rfl
@[simp] theorem State.updPower_ports (z : Zone) (f : PowerUnit → PowerUnit) :
    (s.updPower z f).ports = s.ports := rfl
@[simp] theorem State.updPower_supervision (z : Zone) (f : PowerUnit → PowerUnit) :
    (s.updPower z f).supervision = s.supervision := rfl
@[simp] theorem State.updPower_lastReset (z : Zone) (f : PowerUnit → PowerUnit) :
    (s.updPower z f).lastReset = s.lastReset := rfl
@[simp] theorem State.updPower_sampleIndex (z : Zone) (f : PowerUnit → PowerUnit) :
    (s.updPower z f).sampleIndex = s.sampleIndex := rfl
@[simp] theorem State.updPower_atMark (z : Zone) (f : PowerUnit → PowerUnit) :
    (s.updPower z f).atMark = s.atMark := rfl
@[simp] theorem State.updPower_tdmOut (z : Zone) (f : PowerUnit → PowerUnit) :
    (s.updPower z f).tdmOut = s.tdmOut := rfl
@[simp] theorem State.updPower_ampSent (z : Zone) (f : PowerUnit → PowerUnit) :
    (s.updPower z f).ampSent = s.ampSent := rfl

/-! #### `State.updPort` -/

@[simp] theorem State.updPort_pending (p : Port) (f : PortState → PortState) :
    (s.updPort p f).pending = s.pending := rfl
@[simp] theorem State.updPort_zones (p : Port) (f : PortState → PortState) :
    (s.updPort p f).zones = s.zones := rfl
@[simp] theorem State.updPort_queue (p : Port) (f : PortState → PortState) :
    (s.updPort p f).queue = s.queue := rfl
@[simp] theorem State.updPort_mem (p : Port) (f : PortState → PortState) :
    (s.updPort p f).mem = s.mem := rfl
@[simp] theorem State.updPort_eqWait (p : Port) (f : PortState → PortState) :
    (s.updPort p f).eqWait = s.eqWait := rfl
@[simp] theorem State.updPort_history (p : Port) (f : PortState → PortState) :
    (s.updPort p f).history = s.history := rfl
@[simp] theorem State.updPort_temp (p : Port) (f : PortState → PortState) :
    (s.updPort p f).temp = s.temp := rfl
@[simp] theorem State.updPort_settings (p : Port) (f : PortState → PortState) :
    (s.updPort p f).settings = s.settings := rfl
@[simp] theorem State.updPort_probe (p : Port) (f : PortState → PortState) :
    (s.updPort p f).probe = s.probe := rfl
@[simp] theorem State.updPort_store (p : Port) (f : PortState → PortState) :
    (s.updPort p f).store = s.store := rfl
@[simp] theorem State.updPort_supervision (p : Port) (f : PortState → PortState) :
    (s.updPort p f).supervision = s.supervision := rfl
@[simp] theorem State.updPort_lastReset (p : Port) (f : PortState → PortState) :
    (s.updPort p f).lastReset = s.lastReset := rfl
@[simp] theorem State.updPort_sampleIndex (p : Port) (f : PortState → PortState) :
    (s.updPort p f).sampleIndex = s.sampleIndex := rfl
@[simp] theorem State.updPort_atMark (p : Port) (f : PortState → PortState) :
    (s.updPort p f).atMark = s.atMark := rfl
@[simp] theorem State.updPort_tdmOut (p : Port) (f : PortState → PortState) :
    (s.updPort p f).tdmOut = s.tdmOut := rfl
@[simp] theorem State.updPort_ampSent (p : Port) (f : PortState → PortState) :
    (s.updPort p f).ampSent = s.ampSent := rfl

/-! #### `State.updLink` -/

@[simp] theorem State.updLink_pending (p : Port) (f : Link → Link) :
    (s.updLink p f).pending = s.pending := rfl
@[simp] theorem State.updLink_zones (p : Port) (f : Link → Link) :
    (s.updLink p f).zones = s.zones := rfl
@[simp] theorem State.updLink_queue (p : Port) (f : Link → Link) :
    (s.updLink p f).queue = s.queue := rfl
@[simp] theorem State.updLink_mem (p : Port) (f : Link → Link) :
    (s.updLink p f).mem = s.mem := rfl
@[simp] theorem State.updLink_eqWait (p : Port) (f : Link → Link) :
    (s.updLink p f).eqWait = s.eqWait := rfl
@[simp] theorem State.updLink_history (p : Port) (f : Link → Link) :
    (s.updLink p f).history = s.history := rfl
@[simp] theorem State.updLink_temp (p : Port) (f : Link → Link) :
    (s.updLink p f).temp = s.temp := rfl
@[simp] theorem State.updLink_settings (p : Port) (f : Link → Link) :
    (s.updLink p f).settings = s.settings := rfl
@[simp] theorem State.updLink_probe (p : Port) (f : Link → Link) :
    (s.updLink p f).probe = s.probe := rfl
@[simp] theorem State.updLink_store (p : Port) (f : Link → Link) :
    (s.updLink p f).store = s.store := rfl
@[simp] theorem State.updLink_supervision (p : Port) (f : Link → Link) :
    (s.updLink p f).supervision = s.supervision := rfl
@[simp] theorem State.updLink_lastReset (p : Port) (f : Link → Link) :
    (s.updLink p f).lastReset = s.lastReset := rfl
@[simp] theorem State.updLink_sampleIndex (p : Port) (f : Link → Link) :
    (s.updLink p f).sampleIndex = s.sampleIndex := rfl
@[simp] theorem State.updLink_atMark (p : Port) (f : Link → Link) :
    (s.updLink p f).atMark = s.atMark := rfl
@[simp] theorem State.updLink_tdmOut (p : Port) (f : Link → Link) :
    (s.updLink p f).tdmOut = s.tdmOut := rfl
@[simp] theorem State.updLink_ampSent (p : Port) (f : Link → Link) :
    (s.updLink p f).ampSent = s.ampSent := rfl

/-! #### `State.respond` -/

@[simp] theorem State.respond_pending (p : Port) (r : Response) :
    (s.respond p r).pending = s.pending := rfl
@[simp] theorem State.respond_zones (p : Port) (r : Response) :
    (s.respond p r).zones = s.zones := rfl
@[simp] theorem State.respond_queue (p : Port) (r : Response) :
    (s.respond p r).queue = s.queue := rfl
@[simp] theorem State.respond_mem (p : Port) (r : Response) :
    (s.respond p r).mem = s.mem := rfl
@[simp] theorem State.respond_eqWait (p : Port) (r : Response) :
    (s.respond p r).eqWait = s.eqWait := rfl
@[simp] theorem State.respond_history (p : Port) (r : Response) :
    (s.respond p r).history = s.history := rfl
@[simp] theorem State.respond_temp (p : Port) (r : Response) :
    (s.respond p r).temp = s.temp := rfl
@[simp] theorem State.respond_settings (p : Port) (r : Response) :
    (s.respond p r).settings = s.settings := rfl
@[simp] theorem State.respond_probe (p : Port) (r : Response) :
    (s.respond p r).probe = s.probe := rfl
@[simp] theorem State.respond_store (p : Port) (r : Response) :
    (s.respond p r).store = s.store := rfl
@[simp] theorem State.respond_supervision (p : Port) (r : Response) :
    (s.respond p r).supervision = s.supervision := rfl
@[simp] theorem State.respond_lastReset (p : Port) (r : Response) :
    (s.respond p r).lastReset = s.lastReset := rfl
@[simp] theorem State.respond_sampleIndex (p : Port) (r : Response) :
    (s.respond p r).sampleIndex = s.sampleIndex := rfl
@[simp] theorem State.respond_atMark (p : Port) (r : Response) :
    (s.respond p r).atMark = s.atMark := rfl
@[simp] theorem State.respond_tdmOut (p : Port) (r : Response) :
    (s.respond p r).tdmOut = s.tdmOut := rfl
@[simp] theorem State.respond_ampSent (p : Port) (r : Response) :
    (s.respond p r).ampSent = s.ampSent := rfl

/-! #### `State.answer` -/

@[simp] theorem State.answer_pending (p : Port) (n : Nat) (r : Result) (l : List Byte) :
    (s.answer p n r l).pending = s.pending := rfl
@[simp] theorem State.answer_zones (p : Port) (n : Nat) (r : Result) (l : List Byte) :
    (s.answer p n r l).zones = s.zones := rfl
@[simp] theorem State.answer_queue (p : Port) (n : Nat) (r : Result) (l : List Byte) :
    (s.answer p n r l).queue = s.queue := rfl
@[simp] theorem State.answer_mem (p : Port) (n : Nat) (r : Result) (l : List Byte) :
    (s.answer p n r l).mem = s.mem := rfl
@[simp] theorem State.answer_eqWait (p : Port) (n : Nat) (r : Result) (l : List Byte) :
    (s.answer p n r l).eqWait = s.eqWait := rfl
@[simp] theorem State.answer_history (p : Port) (n : Nat) (r : Result) (l : List Byte) :
    (s.answer p n r l).history = s.history := rfl
@[simp] theorem State.answer_temp (p : Port) (n : Nat) (r : Result) (l : List Byte) :
    (s.answer p n r l).temp = s.temp := rfl
@[simp] theorem State.answer_settings (p : Port) (n : Nat) (r : Result) (l : List Byte) :
    (s.answer p n r l).settings = s.settings := rfl
@[simp] theorem State.answer_probe (p : Port) (n : Nat) (r : Result) (l : List Byte) :
    (s.answer p n r l).probe = s.probe := rfl
@[simp] theorem State.answer_store (p : Port) (n : Nat) (r : Result) (l : List Byte) :
    (s.answer p n r l).store = s.store := rfl
@[simp] theorem State.answer_supervision (p : Port) (n : Nat) (r : Result) (l : List Byte) :
    (s.answer p n r l).supervision = s.supervision := rfl
@[simp] theorem State.answer_lastReset (p : Port) (n : Nat) (r : Result) (l : List Byte) :
    (s.answer p n r l).lastReset = s.lastReset := rfl
@[simp] theorem State.answer_sampleIndex (p : Port) (n : Nat) (r : Result) (l : List Byte) :
    (s.answer p n r l).sampleIndex = s.sampleIndex := rfl
@[simp] theorem State.answer_atMark (p : Port) (n : Nat) (r : Result) (l : List Byte) :
    (s.answer p n r l).atMark = s.atMark := rfl
@[simp] theorem State.answer_tdmOut (p : Port) (n : Nat) (r : Result) (l : List Byte) :
    (s.answer p n r l).tdmOut = s.tdmOut := rfl
@[simp] theorem State.answer_ampSent (p : Port) (n : Nat) (r : Result) (l : List Byte) :
    (s.answer p n r l).ampSent = s.ampSent := rfl

/-! #### `State.raise` -/

@[simp] theorem State.raise_pending (p : Port) (d : Detail) :
    (s.raise p d).pending = s.pending := rfl
@[simp] theorem State.raise_zones (p : Port) (d : Detail) :
    (s.raise p d).zones = s.zones := rfl
@[simp] theorem State.raise_queue (p : Port) (d : Detail) :
    (s.raise p d).queue = s.queue := rfl
@[simp] theorem State.raise_mem (p : Port) (d : Detail) :
    (s.raise p d).mem = s.mem := rfl
@[simp] theorem State.raise_eqWait (p : Port) (d : Detail) :
    (s.raise p d).eqWait = s.eqWait := rfl
@[simp] theorem State.raise_history (p : Port) (d : Detail) :
    (s.raise p d).history = s.history := rfl
@[simp] theorem State.raise_temp (p : Port) (d : Detail) :
    (s.raise p d).temp = s.temp := rfl
@[simp] theorem State.raise_settings (p : Port) (d : Detail) :
    (s.raise p d).settings = s.settings := rfl
@[simp] theorem State.raise_probe (p : Port) (d : Detail) :
    (s.raise p d).probe = s.probe := rfl
@[simp] theorem State.raise_store (p : Port) (d : Detail) :
    (s.raise p d).store = s.store := rfl
@[simp] theorem State.raise_supervision (p : Port) (d : Detail) :
    (s.raise p d).supervision = s.supervision := rfl
@[simp] theorem State.raise_lastReset (p : Port) (d : Detail) :
    (s.raise p d).lastReset = s.lastReset := rfl
@[simp] theorem State.raise_sampleIndex (p : Port) (d : Detail) :
    (s.raise p d).sampleIndex = s.sampleIndex := rfl
@[simp] theorem State.raise_atMark (p : Port) (d : Detail) :
    (s.raise p d).atMark = s.atMark := rfl
@[simp] theorem State.raise_tdmOut (p : Port) (d : Detail) :
    (s.raise p d).tdmOut = s.tdmOut := rfl
@[simp] theorem State.raise_ampSent (p : Port) (d : Detail) :
    (s.raise p d).ampSent = s.ampSent := rfl

/-! #### `State.updNote` -/

@[simp] theorem State.updNote_pending (p : Port) (k : Fin 16) (f : NoteFlag → NoteFlag) :
    (s.updNote p k f).pending = s.pending := rfl
@[simp] theorem State.updNote_zones (p : Port) (k : Fin 16) (f : NoteFlag → NoteFlag) :
    (s.updNote p k f).zones = s.zones := rfl
@[simp] theorem State.updNote_queue (p : Port) (k : Fin 16) (f : NoteFlag → NoteFlag) :
    (s.updNote p k f).queue = s.queue := rfl
@[simp] theorem State.updNote_mem (p : Port) (k : Fin 16) (f : NoteFlag → NoteFlag) :
    (s.updNote p k f).mem = s.mem := rfl
@[simp] theorem State.updNote_eqWait (p : Port) (k : Fin 16) (f : NoteFlag → NoteFlag) :
    (s.updNote p k f).eqWait = s.eqWait := rfl
@[simp] theorem State.updNote_history (p : Port) (k : Fin 16) (f : NoteFlag → NoteFlag) :
    (s.updNote p k f).history = s.history := rfl
@[simp] theorem State.updNote_temp (p : Port) (k : Fin 16) (f : NoteFlag → NoteFlag) :
    (s.updNote p k f).temp = s.temp := rfl
@[simp] theorem State.updNote_settings (p : Port) (k : Fin 16) (f : NoteFlag → NoteFlag) :
    (s.updNote p k f).settings = s.settings := rfl
@[simp] theorem State.updNote_probe (p : Port) (k : Fin 16) (f : NoteFlag → NoteFlag) :
    (s.updNote p k f).probe = s.probe := rfl
@[simp] theorem State.updNote_store (p : Port) (k : Fin 16) (f : NoteFlag → NoteFlag) :
    (s.updNote p k f).store = s.store := rfl
@[simp] theorem State.updNote_supervision (p : Port) (k : Fin 16) (f : NoteFlag → NoteFlag) :
    (s.updNote p k f).supervision = s.supervision := rfl
@[simp] theorem State.updNote_lastReset (p : Port) (k : Fin 16) (f : NoteFlag → NoteFlag) :
    (s.updNote p k f).lastReset = s.lastReset := rfl
@[simp] theorem State.updNote_sampleIndex (p : Port) (k : Fin 16) (f : NoteFlag → NoteFlag) :
    (s.updNote p k f).sampleIndex = s.sampleIndex := rfl
@[simp] theorem State.updNote_atMark (p : Port) (k : Fin 16) (f : NoteFlag → NoteFlag) :
    (s.updNote p k f).atMark = s.atMark := rfl
@[simp] theorem State.updNote_tdmOut (p : Port) (k : Fin 16) (f : NoteFlag → NoteFlag) :
    (s.updNote p k f).tdmOut = s.tdmOut := rfl
@[simp] theorem State.updNote_ampSent (p : Port) (k : Fin 16) (f : NoteFlag → NoteFlag) :
    (s.updNote p k f).ampSent = s.ampSent := rfl

/-! #### `State.updSector` -/

@[simp] theorem State.updSector_pending (n : SectorNo) (f : Sector → Sector) :
    (s.updSector n f).pending = s.pending := rfl
@[simp] theorem State.updSector_zones (n : SectorNo) (f : Sector → Sector) :
    (s.updSector n f).zones = s.zones := rfl
@[simp] theorem State.updSector_queue (n : SectorNo) (f : Sector → Sector) :
    (s.updSector n f).queue = s.queue := rfl
@[simp] theorem State.updSector_mem (n : SectorNo) (f : Sector → Sector) :
    (s.updSector n f).mem = s.mem := rfl
@[simp] theorem State.updSector_eqWait (n : SectorNo) (f : Sector → Sector) :
    (s.updSector n f).eqWait = s.eqWait := rfl
@[simp] theorem State.updSector_history (n : SectorNo) (f : Sector → Sector) :
    (s.updSector n f).history = s.history := rfl
@[simp] theorem State.updSector_temp (n : SectorNo) (f : Sector → Sector) :
    (s.updSector n f).temp = s.temp := rfl
@[simp] theorem State.updSector_settings (n : SectorNo) (f : Sector → Sector) :
    (s.updSector n f).settings = s.settings := rfl
@[simp] theorem State.updSector_probe (n : SectorNo) (f : Sector → Sector) :
    (s.updSector n f).probe = s.probe := rfl
@[simp] theorem State.updSector_ports (n : SectorNo) (f : Sector → Sector) :
    (s.updSector n f).ports = s.ports := rfl
@[simp] theorem State.updSector_supervision (n : SectorNo) (f : Sector → Sector) :
    (s.updSector n f).supervision = s.supervision := rfl
@[simp] theorem State.updSector_lastReset (n : SectorNo) (f : Sector → Sector) :
    (s.updSector n f).lastReset = s.lastReset := rfl
@[simp] theorem State.updSector_sampleIndex (n : SectorNo) (f : Sector → Sector) :
    (s.updSector n f).sampleIndex = s.sampleIndex := rfl
@[simp] theorem State.updSector_atMark (n : SectorNo) (f : Sector → Sector) :
    (s.updSector n f).atMark = s.atMark := rfl
@[simp] theorem State.updSector_tdmOut (n : SectorNo) (f : Sector → Sector) :
    (s.updSector n f).tdmOut = s.tdmOut := rfl
@[simp] theorem State.updSector_ampSent (n : SectorNo) (f : Sector → Sector) :
    (s.updSector n f).ampSent = s.ampSent := rfl

/-! #### `State.updStore` -/

@[simp] theorem State.updStore_pending (f : StoreUnit → StoreUnit) :
    (s.updStore f).pending = s.pending := rfl
@[simp] theorem State.updStore_zones (f : StoreUnit → StoreUnit) :
    (s.updStore f).zones = s.zones := rfl
@[simp] theorem State.updStore_queue (f : StoreUnit → StoreUnit) :
    (s.updStore f).queue = s.queue := rfl
@[simp] theorem State.updStore_mem (f : StoreUnit → StoreUnit) :
    (s.updStore f).mem = s.mem := rfl
@[simp] theorem State.updStore_eqWait (f : StoreUnit → StoreUnit) :
    (s.updStore f).eqWait = s.eqWait := rfl
@[simp] theorem State.updStore_history (f : StoreUnit → StoreUnit) :
    (s.updStore f).history = s.history := rfl
@[simp] theorem State.updStore_temp (f : StoreUnit → StoreUnit) :
    (s.updStore f).temp = s.temp := rfl
@[simp] theorem State.updStore_settings (f : StoreUnit → StoreUnit) :
    (s.updStore f).settings = s.settings := rfl
@[simp] theorem State.updStore_probe (f : StoreUnit → StoreUnit) :
    (s.updStore f).probe = s.probe := rfl
@[simp] theorem State.updStore_ports (f : StoreUnit → StoreUnit) :
    (s.updStore f).ports = s.ports := rfl
@[simp] theorem State.updStore_supervision (f : StoreUnit → StoreUnit) :
    (s.updStore f).supervision = s.supervision := rfl
@[simp] theorem State.updStore_lastReset (f : StoreUnit → StoreUnit) :
    (s.updStore f).lastReset = s.lastReset := rfl
@[simp] theorem State.updStore_sampleIndex (f : StoreUnit → StoreUnit) :
    (s.updStore f).sampleIndex = s.sampleIndex := rfl
@[simp] theorem State.updStore_atMark (f : StoreUnit → StoreUnit) :
    (s.updStore f).atMark = s.atMark := rfl
@[simp] theorem State.updStore_tdmOut (f : StoreUnit → StoreUnit) :
    (s.updStore f).tdmOut = s.tdmOut := rfl
@[simp] theorem State.updStore_ampSent (f : StoreUnit → StoreUnit) :
    (s.updStore f).ampSent = s.ampSent := rfl

/-! #### `State.updProbe` -/

@[simp] theorem State.updProbe_pending (f : ProbeUnit → ProbeUnit) :
    (s.updProbe f).pending = s.pending := rfl
@[simp] theorem State.updProbe_zones (f : ProbeUnit → ProbeUnit) :
    (s.updProbe f).zones = s.zones := rfl
@[simp] theorem State.updProbe_queue (f : ProbeUnit → ProbeUnit) :
    (s.updProbe f).queue = s.queue := rfl
@[simp] theorem State.updProbe_mem (f : ProbeUnit → ProbeUnit) :
    (s.updProbe f).mem = s.mem := rfl
@[simp] theorem State.updProbe_eqWait (f : ProbeUnit → ProbeUnit) :
    (s.updProbe f).eqWait = s.eqWait := rfl
@[simp] theorem State.updProbe_history (f : ProbeUnit → ProbeUnit) :
    (s.updProbe f).history = s.history := rfl
@[simp] theorem State.updProbe_temp (f : ProbeUnit → ProbeUnit) :
    (s.updProbe f).temp = s.temp := rfl
@[simp] theorem State.updProbe_settings (f : ProbeUnit → ProbeUnit) :
    (s.updProbe f).settings = s.settings := rfl
@[simp] theorem State.updProbe_store (f : ProbeUnit → ProbeUnit) :
    (s.updProbe f).store = s.store := rfl
@[simp] theorem State.updProbe_ports (f : ProbeUnit → ProbeUnit) :
    (s.updProbe f).ports = s.ports := rfl
@[simp] theorem State.updProbe_supervision (f : ProbeUnit → ProbeUnit) :
    (s.updProbe f).supervision = s.supervision := rfl
@[simp] theorem State.updProbe_lastReset (f : ProbeUnit → ProbeUnit) :
    (s.updProbe f).lastReset = s.lastReset := rfl
@[simp] theorem State.updProbe_sampleIndex (f : ProbeUnit → ProbeUnit) :
    (s.updProbe f).sampleIndex = s.sampleIndex := rfl
@[simp] theorem State.updProbe_atMark (f : ProbeUnit → ProbeUnit) :
    (s.updProbe f).atMark = s.atMark := rfl
@[simp] theorem State.updProbe_tdmOut (f : ProbeUnit → ProbeUnit) :
    (s.updProbe f).tdmOut = s.tdmOut := rfl
@[simp] theorem State.updProbe_ampSent (f : ProbeUnit → ProbeUnit) :
    (s.updProbe f).ampSent = s.ampSent := rfl

/-! #### `State.updSensor` -/

@[simp] theorem State.updSensor_pending (n : Fin 8) (f : SensorRecord → SensorRecord) :
    (s.updSensor n f).pending = s.pending := rfl
@[simp] theorem State.updSensor_zones (n : Fin 8) (f : SensorRecord → SensorRecord) :
    (s.updSensor n f).zones = s.zones := rfl
@[simp] theorem State.updSensor_queue (n : Fin 8) (f : SensorRecord → SensorRecord) :
    (s.updSensor n f).queue = s.queue := rfl
@[simp] theorem State.updSensor_mem (n : Fin 8) (f : SensorRecord → SensorRecord) :
    (s.updSensor n f).mem = s.mem := rfl
@[simp] theorem State.updSensor_eqWait (n : Fin 8) (f : SensorRecord → SensorRecord) :
    (s.updSensor n f).eqWait = s.eqWait := rfl
@[simp] theorem State.updSensor_history (n : Fin 8) (f : SensorRecord → SensorRecord) :
    (s.updSensor n f).history = s.history := rfl
@[simp] theorem State.updSensor_settings (n : Fin 8) (f : SensorRecord → SensorRecord) :
    (s.updSensor n f).settings = s.settings := rfl
@[simp] theorem State.updSensor_probe (n : Fin 8) (f : SensorRecord → SensorRecord) :
    (s.updSensor n f).probe = s.probe := rfl
@[simp] theorem State.updSensor_store (n : Fin 8) (f : SensorRecord → SensorRecord) :
    (s.updSensor n f).store = s.store := rfl
@[simp] theorem State.updSensor_ports (n : Fin 8) (f : SensorRecord → SensorRecord) :
    (s.updSensor n f).ports = s.ports := rfl
@[simp] theorem State.updSensor_supervision (n : Fin 8) (f : SensorRecord → SensorRecord) :
    (s.updSensor n f).supervision = s.supervision := rfl
@[simp] theorem State.updSensor_lastReset (n : Fin 8) (f : SensorRecord → SensorRecord) :
    (s.updSensor n f).lastReset = s.lastReset := rfl
@[simp] theorem State.updSensor_sampleIndex (n : Fin 8) (f : SensorRecord → SensorRecord) :
    (s.updSensor n f).sampleIndex = s.sampleIndex := rfl
@[simp] theorem State.updSensor_atMark (n : Fin 8) (f : SensorRecord → SensorRecord) :
    (s.updSensor n f).atMark = s.atMark := rfl
@[simp] theorem State.updSensor_tdmOut (n : Fin 8) (f : SensorRecord → SensorRecord) :
    (s.updSensor n f).tdmOut = s.tdmOut := rfl
@[simp] theorem State.updSensor_ampSent (n : Fin 8) (f : SensorRecord → SensorRecord) :
    (s.updSensor n f).ampSent = s.ampSent := rfl

/-! #### `State.setRound` -/

@[simp] theorem State.setRound_pending (r : Option Round) :
    (s.setRound r).pending = s.pending := rfl
@[simp] theorem State.setRound_zones (r : Option Round) :
    (s.setRound r).zones = s.zones := rfl
@[simp] theorem State.setRound_queue (r : Option Round) :
    (s.setRound r).queue = s.queue := rfl
@[simp] theorem State.setRound_mem (r : Option Round) :
    (s.setRound r).mem = s.mem := rfl
@[simp] theorem State.setRound_eqWait (r : Option Round) :
    (s.setRound r).eqWait = s.eqWait := rfl
@[simp] theorem State.setRound_history (r : Option Round) :
    (s.setRound r).history = s.history := rfl
@[simp] theorem State.setRound_settings (r : Option Round) :
    (s.setRound r).settings = s.settings := rfl
@[simp] theorem State.setRound_probe (r : Option Round) :
    (s.setRound r).probe = s.probe := rfl
@[simp] theorem State.setRound_store (r : Option Round) :
    (s.setRound r).store = s.store := rfl
@[simp] theorem State.setRound_ports (r : Option Round) :
    (s.setRound r).ports = s.ports := rfl
@[simp] theorem State.setRound_supervision (r : Option Round) :
    (s.setRound r).supervision = s.supervision := rfl
@[simp] theorem State.setRound_lastReset (r : Option Round) :
    (s.setRound r).lastReset = s.lastReset := rfl
@[simp] theorem State.setRound_sampleIndex (r : Option Round) :
    (s.setRound r).sampleIndex = s.sampleIndex := rfl
@[simp] theorem State.setRound_atMark (r : Option Round) :
    (s.setRound r).atMark = s.atMark := rfl
@[simp] theorem State.setRound_tdmOut (r : Option Round) :
    (s.setRound r).tdmOut = s.tdmOut := rfl
@[simp] theorem State.setRound_ampSent (r : Option Round) :
    (s.setRound r).ampSent = s.ampSent := rfl

end Sys2Proof.Machine
end

