-- ==== Sys2Proof/Laws/Zones.lean ====
section
/-! SUPPORT. Reading one zone after an update of one zone, and the folds over zones. -/

namespace Sys2Proof.Machine

/-- The zone that is changed reads as changed. -/
@[simp] theorem State.zone_updZone_same (s : State) (z : Zone) (f : ZoneState → ZoneState) :
    (s.updZone z f).zone z = f (s.zone z) := by
  simp [State.zone, State.updZone]

/-- Another zone reads as before. -/
theorem State.zone_updZone_other (s : State) {y z : Zone} (f : ZoneState → ZoneState) (h : y ≠ z) :
    (s.updZone z f).zone y = s.zone y := by
  have h' : z.val ≠ y.val := fun e => h (Fin.ext e.symm)
  simp [State.zone, State.updZone, h']

/-- Every zone after an update of one. -/
theorem State.zone_updZone (s : State) (y z : Zone) (f : ZoneState → ZoneState) :
    (s.updZone z f).zone y = if y = z then f (s.zone y) else s.zone y := by
  split
  · next h => subst h; simp
  · next h => exact s.zone_updZone_other f h

/-- A field of the zones that the change of one zone keeps is kept in every zone. -/
theorem State.zone_updZone_keeps {α : Type} (g : ZoneState → α) (s : State) (y z : Zone)
    (f : ZoneState → ZoneState) (h : g (f (s.zone z)) = g (s.zone z)) :
    g ((s.updZone z f).zone y) = g (s.zone y) := by
  rw [State.zone_updZone]
  split
  · next e => subst e; exact h
  · rfl

/-- What every change in a fold over zones keeps, the fold keeps. -/
theorem State.eachOf_keeps {P : State → Prop} (l : List Zone) (f : Zone → State → State)
    (h : ∀ z s, P s → P (f z s)) (s : State) (hs : P s) : P (s.eachOf l f) := by
  induction l generalizing s with
  | nil => exact hs
  | cons z l ih => exact ih _ (h z s hs)

/-- What every change in a fold over all zones keeps, the fold keeps. -/
theorem State.eachZone_keeps {P : State → Prop} (f : Zone → State → State)
    (h : ∀ z s, P s → P (f z s)) (s : State) (hs : P s) : P (s.eachZone f) :=
  State.eachOf_keeps allZones f h s hs

/-- A zone is among all zones. -/
@[simp] theorem mem_allZones (z : Zone) : z ∈ allZones := List.mem_finRange z

/-- No zone stands twice among all zones. -/
theorem allZones_nodup : allZones.Nodup := List.nodup_finRange 32

/-- A fold whose change at zone z touches the reading g of zone z alone leaves each zone's reading as its
own change made it from a state in which that zone still read as at the start. -/
theorem State.eachOf_own {α : Type} (g : State → Zone → α) (f : Zone → State → State)
    (other : ∀ z s y, y ≠ z → g (f z s) y = g s y) (l : List Zone) (s : State) (y : Zone) (h : y ∉ l) :
    g (s.eachOf l f) y = g s y := by
  induction l generalizing s with
  | nil => rfl
  | cons z l ih =>
    have hz : y ≠ z := fun e => h (e ▸ List.mem_cons_self)
    exact (ih _ fun m => h (List.mem_cons_of_mem _ m)).trans (other z s y hz)

/-- After a fold over all zones, each zone's reading g is what its own change `own` makes of its reading at
the start, where a zone's change depends on nothing the other changes touch. -/
theorem State.eachZone_own {α : Type} (g : State → Zone → α) (f : Zone → State → State) (own : Zone → α → α)
    (same : ∀ z s, g (f z s) z = own z (g s z)) (other : ∀ z s y, y ≠ z → g (f z s) y = g s y)
    (s : State) (y : Zone) : g (s.eachZone f) y = own y (g s y) := by
  have key : ∀ (l : List Zone) (s : State), l.Nodup → y ∈ l → g (s.eachOf l f) y = own y (g s y) := by
    intro l
    induction l with
    | nil => intro s _ h; cases h
    | cons z l ih =>
      intro s hn hy
      rw [List.nodup_cons] at hn
      by_cases e : y = z
      · subst e
        exact (State.eachOf_own g f other l (f y s) y hn.1).trans (same y s)
      · have hl : y ∈ l := by cases hy with
          | head => exact absurd rfl e
          | tail _ h => exact h
        exact (ih (f z s) hn.2 hl).trans (by rw [other z s y e])
  exact key allZones s allZones_nodup (mem_allZones y)

end Sys2Proof.Machine
end

