-- ==== Sys2Proof/Laws/Frames.lean ====
section
/-! SUPPORT. The frames of the shared operations: which parts of the state each may change. -/

namespace Sys2Proof.Machine

/-! ### The frame relation -/

theorem Only.refl (l : List Part) (s : State) : Only l s s :=
  ⟨fun p _ => by cases p <;> simp [Part.same]⟩

/-- Sameness of a part carries over. -/
theorem Part.same_trans {p : Part} {s t u : State} (h : p.same s t) (k : p.same t u) : p.same s u := by
  cases p <;> first | exact Eq.trans h k | exact fun z => (h z).trans (k z)

theorem Only.trans {l : List Part} {s t u : State} (h : Only l s t) (k : Only l t u) : Only l s u :=
  ⟨fun p hp => Part.same_trans (h.same p hp) (k.same p hp)⟩

/-- Every part of one list stands in another. -/
def Part.among (l m : List Part) : Bool := l.all fun p => m.contains p

/-- A frame may list more parts. -/
theorem Only.mono {l m : List Part} {s t : State} (h : Only l s t) (hm : Part.among l m = true) : Only m s t :=
  ⟨fun p hp => h.same p fun hl => hp (List.contains_iff_mem.mp (List.all_eq_true.mp hm p hl))⟩

/-- A frame followed by a frame, both among the parts of a third. -/
theorem Only.comp {l m n : List Part} {s t u : State} (h : Only l s t) (k : Only m t u)
    (hl : Part.among l n = true) (hm : Part.among m n = true) : Only n s u :=
  (h.mono hl).trans (k.mono hm)

theorem Only.eachOf {l : List Part} (zs : List Zone) (f : Zone → State → State)
    (h : ∀ z s, Only l s (f z s)) (s : State) : Only l s (s.eachOf zs f) :=
  State.eachOf_keeps (P := Only l s) zs f (fun z t ht => ht.trans (h z t)) s (Only.refl l s)

theorem Only.eachZone {l : List Part} (f : Zone → State → State) (h : ∀ z s, Only l s (f z s)) (s : State) :
    Only l s (s.eachZone f) :=
  Only.eachOf allZones f h s

theorem Only.foldl {α : Type} {l : List Part} (f : State → α → State) (h : ∀ s a, Only l s (f s a)) (as : List α)
    (s : State) : Only l s (as.foldl f s) := by
  induction as generalizing s with
  | nil => exact Only.refl l s
  | cons a as ih => exact (h s a).trans (ih _)

theorem Only.ite {l : List Part} {s t u : State} (c : Prop) [Decidable c] (h : Only l s t) (k : Only l s u) :
    Only l s (if c then t else u) := by
  split
  · exact h
  · exact k

/-- A change that keeps each part outside the list. -/
theorem Only.fields {l : List Part} {s t : State} (h : ∀ p, p ∉ l → p.same s t) : Only l s t := ⟨h⟩

/-! ### Updates -/

/-- What a part of the state is of one zone: nothing, for the parts away from the zones. -/
def Part.sameOf : Part → ZoneState → ZoneState → Prop
  | .entry, a, b => a.entry = b.entry
  | .target, a, b => a.target = b.target
  | .line, a, b => a.line = b.line
  | .eq, a, b => a.eq = b.eq
  | .gain, a, b => a.gain = b.gain
  | .route, a, b => a.route = b.route
  | .power, a, b => a.power = b.power
  | _, _, _ => True

/-- A change of one zone, by what it keeps of the zone. -/
theorem Only.zone {l : List Part} (s : State) (z : Zone) (f : ZoneState → ZoneState)
    (h : ∀ p, p ∉ l → p.sameOf (f (s.zone z)) (s.zone z)) : Only l s (s.updZone z f) := by
  refine ⟨fun p hp => ?_⟩
  have k := h p hp
  cases p with
  | entry => exact fun y => (State.zone_updZone_keeps ZoneState.entry s y z f k).symm
  | target => exact fun y => (State.zone_updZone_keeps ZoneState.target s y z f k).symm
  | line => exact fun y => (State.zone_updZone_keeps ZoneState.line s y z f k).symm
  | eq => exact fun y => (State.zone_updZone_keeps ZoneState.eq s y z f k).symm
  | gain => exact fun y => (State.zone_updZone_keeps ZoneState.gain s y z f k).symm
  | route => exact fun y => (State.zone_updZone_keeps ZoneState.route s y z f k).symm
  | power => exact fun y => (State.zone_updZone_keeps ZoneState.power s y z f k).symm
  | _ => exact (rfl : _ = _)

theorem updEntry_only (s : State) (z : Zone) (f : TableEntry → TableEntry) : Only [.entry] s (s.updEntry z f) :=
  Only.zone s z _ (by rintro ⟨⟩ hp <;> first | rfl | trivial)

theorem updTarget_only (s : State) (z : Zone) (f : TargetState → TargetState) : Only [.target] s (s.updTarget z f) :=
  Only.zone s z _ (by rintro ⟨⟩ hp <;> first | rfl | trivial)

theorem updLine_only (s : State) (z : Zone) (f : LineState → LineState) : Only [.line] s (s.updLine z f) :=
  Only.zone s z _ (by rintro ⟨⟩ hp <;> first | rfl | trivial)

theorem updEq_only (s : State) (z : Zone) (f : EqState → EqState) : Only [.eq] s (s.updEq z f) :=
  Only.zone s z _ (by rintro ⟨⟩ hp <;> first | rfl | trivial)

theorem updGain_only (s : State) (z : Zone) (f : GainState → GainState) : Only [.gain] s (s.updGain z f) :=
  Only.zone s z _ (by rintro ⟨⟩ hp <;> first | rfl | trivial)

theorem updRoute_only (s : State) (z : Zone) (f : RouteState → RouteState) : Only [.route] s (s.updRoute z f) :=
  Only.zone s z _ (by rintro ⟨⟩ hp <;> first | rfl | trivial)

theorem updPower_only (s : State) (z : Zone) (f : PowerUnit → PowerUnit) : Only [.power] s (s.updPower z f) :=
  Only.zone s z _ (by rintro ⟨⟩ hp <;> first | rfl | trivial)

theorem updPort_only (s : State) (p : Port) (f : PortState → PortState) : Only [.ports] s (s.updPort p f) :=
  Only.fields (by rintro ⟨⟩ hp <;> first | rfl | exact fun _ => rfl | simp at hp)

theorem updLink_only (s : State) (p : Port) (f : Link → Link) : Only [.ports] s (s.updLink p f) :=
  updPort_only s p _

theorem raise_only (s : State) (p : Port) (d : Detail) : Only [.ports] s (s.raise p d) := updPort_only s p _

theorem raiseAll_only (s : State) (ps : List Port) (d : Detail) : Only [.ports] s (s.raiseAll ps d) :=
  Only.foldl _ (fun s p => raise_only s p d) ps s

theorem answer_only (s : State) (p : Port) (code : Nat) (r : Result) (b : List Byte) :
    Only [.ports] s (s.answer p code r b) :=
  updLink_only s p fun l =>
    { l with tx := some { cmd := byteOf (code + 0x80), result := r, payload := b, restarts := false } }

theorem updProbe_only (s : State) (f : ProbeUnit → ProbeUnit) : Only [.probe] s (s.updProbe f) :=
  Only.fields (by rintro ⟨⟩ hp <;> first | rfl | exact fun _ => rfl | simp at hp)

theorem updStore_only (s : State) (f : StoreUnit → StoreUnit) : Only [.store] s (s.updStore f) :=
  Only.fields (by rintro ⟨⟩ hp <;> first | rfl | exact fun _ => rfl | simp at hp)

theorem updSector_only (s : State) (n : SectorNo) (f : Sector → Sector) : Only [.store] s (s.updSector n f) :=
  Only.fields (by rintro ⟨⟩ hp <;> first | rfl | exact fun _ => rfl | simp at hp)

theorem updSensor_only (s : State) (n : Fin 8) (f : SensorRecord → SensorRecord) :
    Only [.temp] s (s.updSensor n f) :=
  Only.fields (by rintro ⟨⟩ hp <;> first | rfl | exact fun _ => rfl | simp at hp)

theorem setRound_only (s : State) (r : Option Round) : Only [.temp] s (s.setRound r) :=
  Only.fields (by rintro ⟨⟩ hp <;> first | rfl | exact fun _ => rfl | simp at hp)

theorem queue_only (s : State) (q : ChangeQueue) : Only [.queue] s { s with queue := q } :=
  Only.fields (by rintro ⟨⟩ hp <;> first | rfl | exact fun _ => rfl | simp at hp)

theorem mem_only (s : State) (m : List MemCell) : Only [.mem] s { s with mem := m } :=
  Only.fields (by rintro ⟨⟩ hp <;> first | rfl | exact fun _ => rfl | simp at hp)

theorem eqWait_only (s : State) (l : List Zone) : Only [.eqWait] s { s with eqWait := l } :=
  Only.fields (by rintro ⟨⟩ hp <;> first | rfl | exact fun _ => rfl | simp at hp)

theorem history_only (s : State) (h : Vector Nat 100) : Only [.history] s { s with history := h } :=
  Only.fields (by rintro ⟨⟩ hp <;> first | rfl | exact fun _ => rfl | simp at hp)

theorem temp_only (s : State) (t : TempUnit) : Only [.temp] s { s with temp := t } :=
  Only.fields (by rintro ⟨⟩ hp <;> first | rfl | exact fun _ => rfl | simp at hp)

theorem settings_only (s : State) (x : Settings) : Only [.settings] s { s with settings := x } :=
  Only.fields (by rintro ⟨⟩ hp <;> first | rfl | exact fun _ => rfl | simp at hp)

theorem supervision_only (s : State) (x : Supervision) : Only [.supervision] s { s with supervision := x } :=
  Only.fields (by rintro ⟨⟩ hp <;> first | rfl | exact fun _ => rfl | simp at hp)

theorem atMark_only (s : State) (b : Bool) : Only [.atMark] s { s with atMark := b } :=
  Only.fields (by rintro ⟨⟩ hp <;> first | rfl | exact fun _ => rfl | simp at hp)

theorem tdmOut_only (s : State) (v : Vector Sample 32) : Only [.tdmOut] s { s with tdmOut := v } :=
  Only.fields (by rintro ⟨⟩ hp <;> first | rfl | exact fun _ => rfl | simp at hp)

/-! ### Chapters 3 and 6 -/

theorem raiseHeld_only (s : State) (z : Zone) (a b : TargetState) : Only [.ports] s (raiseHeld s z a b) := by
  unfold raiseHeld
  split
  · split
    · exact raise_only ..
    · exact Only.refl ..
  · exact Only.refl ..

theorem raiseClamped_only (s : State) (z : Zone) (t : TargetState) : Only [.ports] s (raiseClamped s z t) := by
  unfold raiseClamped
  split
  · exact Only.refl ..
  · exact raise_only ..
  · exact raise_only ..

theorem computeOne_only (c : ComputationClass) (z : Zone) (s : State) :
    Only [.target, .ports] s (computeOne c z s) := by
  have h := (updTarget_only s z fun _ =>
    (settleTarget c (s.active z).enabled s.settings.deadband (formFields s z)).1).comp
    (n := [.target, .ports]) (raiseHeld_only _ z (s.zone z).target
      (settleTarget c (s.active z).enabled s.settings.deadband (formFields s z)).1) rfl rfl
  simp only [computeOne]
  split
  · exact h.comp (raiseClamped_only ..) rfl rfl
  · exact h

theorem compute_only (c : ComputationClass) (b : Bool) (z : Zone) (s : State) :
    Only [.target, .ports] s (compute c b z s) := by
  unfold compute
  have h := computeOne_only c z s
  simp only
  split
  · exact h.trans (Only.eachOf _ _ (fun z s => computeOne_only .record z s) _)
  · exact h

theorem targetNotice_only (z : Zone) (g : List FieldGroup) (s : State) :
    Only [.target, .ports] s (targetNotice z g s) := by
  unfold targetNotice
  split
  · exact compute_only ..
  · split
    · exact compute_only ..
    · exact Only.refl ..

theorem sensorNotice_only (n : Fin 8) (s : State) : Only [.target, .ports] s (sensorNotice n s) := by
  unfold sensorNotice
  split
  · exact Only.refl ..
  · refine Only.eachZone _ (fun z s => ?_) s
    split
    · exact compute_only ..
    · exact Only.refl ..

theorem tRefChanged_only (s : State) : Only [.target, .ports] s (tRefChanged s) := by
  refine Only.eachZone _ (fun z s => ?_) s
  split
  · exact compute_only ..
  · exact Only.refl ..

theorem grantLoop_only (l : List Zone) (s : State) : Only [.eq, .eqWait] s (grantLoop l s) := by
  induction l generalizing s with
  | nil => exact Only.refl ..
  | cons z rest ih =>
    unfold grantLoop
    split
    · exact Only.refl ..
    · simp only
      have h := eqWait_only s rest
      split
      · exact (h.comp (n := [.eq, .eqWait]) (updEq_only ..) rfl rfl).trans (ih _)
      · exact (h.comp (n := [.eq, .eqWait]) (updEq_only ..) rfl rfl).trans (ih _)

theorem eqGrant_only (s : State) : Only [.eq, .eqWait] s (eqGrant s) := grantLoop_only ..

theorem eqJoin_only (z : Zone) (s : State) : Only [.eq, .eqWait] s (eqJoin z s) :=
  ((updEq_only s z _).comp (n := [.eq, .eqWait]) (eqWait_only ..) rfl rfl).trans (eqGrant_only _)

theorem eqSetUp_only (z : Zone) (s : State) : Only [.eq] s (eqSetUp z s) := updEq_only ..

theorem bankChange_only (z : Zone) (s : State) : Only [.eq, .eqWait] s (bankChange z s) := by
  unfold bankChange
  split
  · split
    · exact eqJoin_only ..
    · exact Only.refl ..
    · exact (updEq_only ..).mono rfl
  · exact (eqSetUp_only ..).mono rfl

theorem eqNotice_only (z : Zone) (g : List FieldGroup) (r : ZoneRecord) (s : State) :
    Only [.eq, .eqWait] s (eqNotice z g r s) := by
  unfold eqNotice
  split
  · exact bankChange_only ..
  · exact Only.refl ..

theorem eqLeave_only (z : Zone) (s : State) : Only [.eq, .eqWait] s (eqLeave z s) := by
  unfold eqLeave
  split
  · exact Only.refl ..
  · exact (eqWait_only s _).comp (eqSetUp_only ..) rfl rfl
  · exact (eqSetUp_only z s).comp (eqGrant_only ..) rfl rfl

theorem eqStop_only (z : Zone) (s : State) : Only [.eq] s (eqStop z s) := updEq_only ..

theorem clipCount_only (z : Zone) (b : Bool) (s : State) : Only [.gain, .ports] s (clipCount z b s) := by
  unfold clipCount
  simp only
  split
  · exact (updGain_only s z _).comp (raiseAll_only ..) rfl rfl
  · exact (updGain_only s z _).mono rfl

theorem crossfadeFinish_only (z : Zone) (s : State) : Only [.eq, .eqWait] s (crossfadeFinish z s) := by
  unfold crossfadeFinish
  split
  · exact (updEq_only s z _).comp (eqJoin_only ..) rfl rfl
  · exact (updEq_only s z _).comp (eqGrant_only ..) rfl rfl
  · exact Only.refl ..
  · exact Only.refl ..

/-! ### Chapters 8 and 7 -/

theorem setPower_only (z : Zone) (p : PowerState) (s : State) :
    Only [.power, .gain, .eq, .eqWait] s (setPower z p s) := by
  have h : Only [.power, .gain, .eq, .eqWait] s
      ((s.updPower z fun _ => { state := p, framesInState := 0, fresh := s.atMark }).updGain z fun g =>
        g.onPower (s.powerOf z) p s.sampleIndex) :=
    (updPower_only s z _).comp (updGain_only ..) rfl rfl
  have k := Only.ite ((s.powerOf z).heard = true ∧ ¬ p.heard = true) (h.comp (eqLeave_only z _) rfl rfl) h
  exact Only.ite (p.inService = true) k (k.comp (eqStop_only z _) rfl rfl)

theorem enterDraining_only (z : Zone) (s : State) :
    Only [.power, .gain, .eq, .eqWait] s (enterDraining z s) := setPower_only ..

theorem winnerPower_only (z : Zone) (a b : Option RouteEntry) (s : State) :
    Only [.power, .gain, .eq, .eqWait] s (winnerPower z a b s) := by
  unfold winnerPower
  split <;> first | exact setPower_only .. | exact enterDraining_only .. | exact Only.refl ..

theorem fadeEndPower_only (z : Zone) (s : State) :
    Only [.power, .gain, .eq, .eqWait] s (fadeEndPower z s) := by
  unfold fadeEndPower
  split
  · exact enterDraining_only ..
  · exact Only.refl ..

theorem grant_only (z : Zone) (s : State) : Only [.power, .gain, .eq, .eqWait] s (grant z s) := by
  unfold grant
  simp only
  split
  · exact (setPower_only ..).trans (setPower_only ..)
  · exact setPower_only ..

theorem limiterWork_only (s : State) :
    Only [.power, .gain, .eq, .eqWait, .history] s (limiterWork s) :=
  (history_only s _).comp (Only.eachOf _ _ (fun z s => grant_only z s) _) rfl rfl

theorem setRoutes_only (z : Zone) (l : List RouteEntry) (s : State) :
    Only [.route, .power, .gain, .eq, .eqWait] s (setRoutes z l s) := by
  have h : Only [.route, .power, .gain, .eq, .eqWait] s (s.updRoute z fun r => { r with entries := l }) :=
    (updRoute_only s z _).mono rfl
  unfold setRoutes
  simp only
  split
  · exact h
  · have k := fun f : Fade => (h.trans ((updRoute_only _ z fun r => { r with fade := f }).mono rfl)).comp
      (n := [.route, .power, .gain, .eq, .eqWait])
      (winnerPower_only z (s.winner z) ((s.updRoute z fun r => { r with entries := l }).winner z) _) rfl rfl
    split
    · exact (k _).comp (fadeEndPower_only ..) rfl rfl
    · exact k _

/-! ### Chapter 9 -/

/-- The parts a change of a route set may change, with the probe's answer. -/
def Part.routed : List Part := [.route, .power, .gain, .eq, .eqWait, .probe, .ports]

theorem probeDrop_only (z : Zone) (s : State) : Only [.route, .power, .gain, .eq, .eqWait] s (probeDrop z s) :=
  setRoutes_only ..

theorem probeTest_only (s : State) : Only [.probe] s (probeTest s) := by
  unfold probeTest
  split
  · split
    · exact updProbe_only ..
    · exact Only.refl ..
  all_goals exact Only.refl ..

theorem appendResult_only (r : ProbeResult) (s : State) : Only [.probe, .ports] s (appendResult r s) :=
  (updProbe_only s _).comp (raise_only ..) rfl rfl

theorem closeWindow_only (s : State) : Only [.probe, .ports] s (closeWindow s) := by
  unfold closeWindow
  split
  · exact (updProbe_only s _).comp (appendResult_only ..) rfl rfl
  · exact Only.refl ..

theorem abortWindow_only (s : State) : Only [.probe, .ports] s (abortWindow s) := by
  unfold abortWindow
  split
  · exact (updProbe_only s _).comp (appendResult_only ..) rfl rfl
  · exact Only.refl ..

theorem probeIdle_only (z : Zone) (s : State) : Only Part.routed s (probeIdle z s) :=
  (updProbe_only s _).comp (probeDrop_only ..) rfl rfl

theorem raiseCancelled_only (z : Zone) (r : CancelReason) (s : State) :
    Only [.ports] s (raiseCancelled z r s) := raise_only ..

theorem probeCancel_only (r : CancelReason) (s : State) : Only Part.routed s (probeCancel r s) :=
  ((abortWindow_only s).comp (n := Part.routed) (probeIdle_only ..) rfl rfl).comp (raiseCancelled_only ..) rfl rfl

theorem probeBegin_only (z : Zone) (s : State) : Only Part.routed s (probeBegin z s) :=
  ((updProbe_only s _).comp (n := Part.routed) (setRoutes_only ..) rfl rfl).comp (probeTest_only ..) rfl rfl

theorem probeStart_only (z : Zone) (s : State) : Only Part.routed s (probeStart z s) := by
  unfold probeStart
  split
  · exact probeBegin_only ..
  · exact (updProbe_only s _).comp (raiseCancelled_only ..) rfl rfl

theorem copySettings_only (s : State) : Only [.probe] s (copySettings s) := updProbe_only ..

theorem probeMove_only (a b : Zone) (s : State) : Only Part.routed s (probeMove a b s) :=
  (probeDrop_only a s).comp (probeStart_only ..) rfl rfl

theorem probeAbort_only (s : State) : Only Part.routed s (probeAbort s) := by
  unfold probeAbort
  simp only
  have h : Only Part.routed s (copySettings (abortWindow s)) :=
    (abortWindow_only s).comp (copySettings_only ..) rfl rfl
  split
  · split
    · exact h.comp ((updProbe_only _ _).comp (n := [.probe]) (probeTest_only ..) rfl rfl) rfl rfl
    · exact h.comp ((updProbe_only _ _).comp (n := Part.routed) (probeMove_only ..) rfl rfl) rfl rfl
  · exact h.comp (probeIdle_only ..) rfl rfl
  all_goals exact h

theorem probeWinner_only (z : Zone) (a b : Option RouteEntry) (s : State) :
    Only Part.routed s (probeWinner z a b s) := by
  unfold probeWinner
  split
  · split
    · exact Only.refl ..
    · exact Only.refl ..
    · split
      · exact probeCancel_only ..
      · exact (probeTest_only s).mono rfl
    all_goals
      split
      · exact probeCancel_only ..
      · split
        · exact probeAbort_only ..
        · exact Only.refl ..
  · exact Only.refl ..

theorem probeRemoved_only (z : Zone) (r : CancelReason) (s : State) :
    Only Part.routed s (probeRemoved z r s) := by
  unfold probeRemoved
  split
  · split <;> first | exact Only.refl .. | exact probeCancel_only ..
  · exact Only.refl ..

theorem periodOpen_only (s : State) : Only [.probe] s (Machine.periodOpen s) := by
  unfold Machine.periodOpen
  split
  · exact updProbe_only ..
  · exact Only.refl ..

theorem periodEnd_only (n : Nat) (s : State) : Only Part.routed s (Machine.periodEnd n s) := by
  unfold Machine.periodEnd
  simp only
  have h : Only Part.routed s (copySettings (closeWindow s)) :=
    (closeWindow_only s).comp (copySettings_only ..) rfl rfl
  split
  · split
    · split
      · exact h.comp (updProbe_only ..) rfl rfl
      · exact h.comp (probeMove_only ..) rfl rfl
    · exact h.comp (probeIdle_only ..) rfl rfl
  · exact h.comp (probeIdle_only ..) rfl rfl
  all_goals exact h

theorem probeWork_only (s : State) : Only [.probe] s (probeWork s) := by
  unfold probeWork
  split
  · split
    · exact updProbe_only ..
    · exact Only.refl ..
  · exact Only.refl ..

theorem probeStopped_only (s : State) : Only Part.routed s (probeStopped s) := by
  unfold probeStopped
  split
  · exact Only.refl ..
  · exact Only.refl ..
  · exact (updProbe_only s _).mono rfl
  · exact probeIdle_only ..
  · exact (updProbe_only s _).mono rfl

/-! ### Chapter 7, the rows -/

theorem changeRoutes_only (z : Zone) (l : List RouteEntry) (s : State) :
    Only Part.routed s (changeRoutes z l s) :=
  (setRoutes_only z l s).comp (probeWinner_only ..) rfl rfl

theorem raiseEvicting_only (z : Zone) (e x : RouteEntry) (s : State) :
    Only Part.routed s (raiseEvicting z e x s) := by
  unfold raiseEvicting
  simp only
  have h := fun l => (setRoutes_only z l s).comp (n := Part.routed)
    (raise_only _ x.port (.routeEvicted z x.source x.level e.source e.level)) rfl rfl
  split
  · exact ((h _).trans (probeRemoved_only ..)).trans (probeWinner_only ..)
  · exact (h _).trans (probeWinner_only ..)

theorem raiseIn_only (e : RouteEntry) (z : Zone) (s : State) (r : RouteReport) :
    Only Part.routed s (raiseIn e z s r).1 := by
  unfold raiseIn
  split
  · exact changeRoutes_only ..
  · exact raiseEvicting_only ..
  all_goals exact Only.refl ..

theorem dropIn_only (p : Port) (src : Source) (z : Zone) (s : State) (r : RouteReport) :
    Only Part.routed s (dropIn p src z s r).1 := by
  unfold dropIn
  split
  · exact Only.refl ..
  · simp only
    split
    · exact changeRoutes_only ..
    · exact Only.refl ..

theorem dropAllIn_only (p : Port) (z : Zone) (s : State) (r : RouteReport) :
    Only Part.routed s (dropAllIn p z s r).1 := by
  unfold dropAllIn
  simp only
  split
  · exact Only.refl ..
  · exact changeRoutes_only ..

theorem overZones_only (f : Zone → State → RouteReport → State × RouteReport)
    (h : ∀ z s r, Only Part.routed s (f z s r).1) (zs : List Zone) (s : State) :
    Only Part.routed s (overZones f zs s).1 := by
  have key : ∀ (zs : List Zone) (x : State × RouteReport),
      Only Part.routed x.1 (zs.foldl (fun x z => f z x.1 x.2) x).1 := by
    intro zs
    induction zs with
    | nil => exact fun x => Only.refl ..
    | cons z zs ih => exact fun x => (h z x.1 x.2).trans (ih _)
  exact key zs (s, .empty)

theorem fadeFinish_only (z : Zone) (s : State) :
    Only [.route, .power, .gain, .eq, .eqWait, .probe] s (fadeFinish z s) :=
  ((updRoute_only s z _).comp (n := [.route, .power, .gain, .eq, .eqWait]) (fadeEndPower_only ..) rfl rfl).comp
    (probeTest_only ..) rfl rfl

theorem wakeFinish_only (z : Zone) (s : State) :
    Only [.power, .gain, .eq, .eqWait, .probe] s (wakeFinish z s) :=
  (setPower_only z .live s).comp (probeTest_only ..) rfl rfl

theorem drainFinish_only (z : Zone) (s : State) :
    Only [.power, .gain, .eq, .eqWait, .probe] s (drainFinish z s) :=
  (setPower_only z .parked s).comp (probeTest_only ..) rfl rfl

/-! ### Chapters 1 and 2 -/

theorem takeNext_only (s : State) : Only [.queue] s (takeNext s) := by
  unfold takeNext
  split
  · split
    · exact queue_only ..
    · exact Only.refl ..
  · exact Only.refl ..

theorem offer_only (e : QueueEntry) (s : State) : Only [.queue] s (offer e s) := by
  unfold offer
  simp only
  split
  · exact (queue_only s _).trans (takeNext_only _)
  · exact queue_only ..
  · exact queue_only ..

theorem acceptChange_only (p : Port) (code : Nat) (z : ZoneTarget) (c : Change) (l : List Nat) (b : List Byte)
    (s : State) : Only [.queue, .ports] s (acceptChange p code z c l b s) := by
  unfold acceptChange
  simp only
  (repeat' split) <;>
    first
    | exact (answer_only ..).mono rfl
    | exact (offer_only _ s).comp (answer_only ..) rfl rfl

theorem writeShadow_only (c : Change) (z : Zone) (s : State) : Only [.entry] s (writeShadow c z s) :=
  updEntry_only ..

theorem writeChange_only (c : Change) (t : ZoneTarget) (s : State) : Only [.entry] s (writeChange c t s) := by
  unfold writeChange
  split
  · exact writeShadow_only ..
  · exact Only.eachZone _ (fun z s => writeShadow_only c z s) s

theorem landChange_only (e : QueueEntry) (s : State) : Only [.entry, .ports] s (landChange e s) := by
  unfold landChange
  split
  · exact (raise_only ..).mono rfl
  · exact (writeChange_only ..).mono rfl

theorem raiseDrained_only (e : QueueEntry) (s : State) : Only [.ports] s (raiseDrained e s) := by
  unfold raiseDrained
  split
  · exact raise_only ..
  · exact Only.refl ..

theorem completeHand_only (s : State) : Only [.entry, .queue, .ports] s (completeHand s) := by
  unfold completeHand
  split
  · simp only
    exact (((landChange_only _ s).comp (n := [.entry, .queue, .ports]) (queue_only ..) rfl rfl).comp
      (n := [.entry, .queue, .ports]) (raiseDrained_only ..) rfl rfl).comp (takeNext_only ..) rfl rfl
  · exact Only.refl ..

theorem changeNotice_only (z : Zone) (g : List FieldGroup) (r : ZoneRecord) (s : State) :
    Only [.target, .ports, .eq, .eqWait] s (changeNotice z g r s) :=
  (targetNotice_only z g s).comp (eqNotice_only ..) rfl rfl

theorem transferWork_only (s : State) :
    Only [.entry, .target, .ports, .eq, .eqWait] s (transferWork s) := by
  refine (Only.eachZone _ (fun z s => updEntry_only s z transferEntry) s).comp
    (m := [.target, .ports, .eq, .eqWait]) (Only.eachZone _ (fun z s' => ?_) _) rfl rfl
  unfold transferNotice
  split
  · exact changeNotice_only ..
  · exact Only.refl ..

theorem clearLine_only (z : Zone) (s : State) : Only [.line, .mem] s (clearLine z s) := by
  unfold clearLine
  simp only
  split
  · exact (mem_only s _).comp (updLine_only ..) rfl rfl
  · exact (updLine_only ..).mono rfl

theorem writeBoth_only (z : Zone) (f : ZoneRecord → ZoneRecord) (s : State) :
    Only [.entry] s (writeBoth z f s) := updEntry_only ..

theorem directWrite_only (z : Zone) (g : FieldGroup) (f : ZoneRecord → ZoneRecord) (s : State) :
    Only [.entry, .target, .ports, .eq, .eqWait] s (directWrite z g f s) :=
  (writeBoth_only z f s).comp (changeNotice_only ..) rfl rfl

/-- The parts ENABLE_ZONE may change. -/
def Part.enabling : List Part :=
  [.entry, .target, .line, .eq, .gain, .route, .power, .mem, .eqWait, .ports]

theorem enableZone_only (z : Zone) (s : State) : Only Part.enabling s (enableZone z s) := by
  let s1 := directWrite z .enable (fun r => { r with enabled := true }) s
  let s2 := clearLine z s1
  let s3 := s2.updLine z fun l => { l with dCur := (s2.zone z).target.tgt }
  let s4 := eqSetUp z s3
  let s5 := s4.updRoute z fun r => { r with entries := [], fade := .atRest none }
  have h1 : Only Part.enabling s s1 := (directWrite_only ..).mono rfl
  have h2 : Only Part.enabling s1 s2 := (clearLine_only ..).mono rfl
  have h3 : Only Part.enabling s2 s3 := (updLine_only ..).mono rfl
  have h4 : Only Part.enabling s3 s4 := (eqSetUp_only ..).mono rfl
  have h5 : Only Part.enabling s4 s5 := (updRoute_only ..).mono rfl
  have h6 : Only Part.enabling s5 (setPower z .parked s5) := (setPower_only ..).mono rfl
  exact ((((h1.trans h2).trans h3).trans h4).trans h5).trans h6

theorem raiseLost_only (z : Zone) (l : List RouteEntry) (p : Port) (s : State) :
    Only [.ports] s (raiseLost z l p s) := by
  unfold raiseLost
  split
  · exact Only.refl ..
  · exact raise_only ..

/-- The parts DISABLE_ZONE may change. -/
def Part.disabling : List Part :=
  [.entry, .target, .line, .eq, .gain, .route, .power, .eqWait, .probe, .ports]

theorem disableZone_only (z : Zone) (s : State) : Only Part.disabling s (disableZone z s) := by
  unfold disableZone
  simp only
  have h := (updRoute_only s z fun r => { r with entries := [], fade := .atRest none })
  have k : Only Part.disabling s
      (if ((s.zone z).route.entries.any RouteEntry.isProbe) = true then
        probeRemoved z .zoneDisabled (s.updRoute z fun r => { r with entries := [], fade := .atRest none })
       else s.updRoute z fun r => { r with entries := [], fade := .atRest none }) := by
    split
    · exact h.comp (probeRemoved_only ..) rfl rfl
    · exact h.mono rfl
  exact ((((k.comp (n := Part.disabling) (setPower_only ..) rfl rfl).comp (n := Part.disabling)
    (directWrite_only ..) rfl rfl).comp (n := Part.disabling) (updLine_only ..) rfl rfl).comp (n := Part.disabling)
    (raiseLost_only ..) rfl rfl).comp (raiseLost_only ..) rfl rfl

/-! ### Chapter 4 -/

theorem slewWork_only (s : State) : Only [.line] s (slewWork s) :=
  Only.eachZone _ (fun z s => updLine_only s z _) s

/-! ### Chapter 5 -/

theorem roundOn_only (n : Nat) (l : List (Fin 8)) (s : State) : Only [.temp] s (roundOn n l s) := by
  unfold roundOn
  split <;> exact setRound_only ..

theorem loadTimer_only (s : State) : Only [.temp] s (loadTimer s) := temp_only ..

theorem pollExpiry_only (s : State) : Only [.temp] s (pollExpiry s) := by
  unfold pollExpiry
  simp only
  split
  · exact (loadTimer_only s).trans (roundOn_only ..)
  · exact loadTimer_only s

theorem acceptReading_only (n : Fin 8) (v : Int) (s : State) :
    Only [.temp, .target, .ports] s (acceptReading n v s) := by
  unfold acceptReading
  simp only
  split
  · exact ((updSensor_only s n _).comp (n := [.temp, .target, .ports]) (raise_only ..) rfl rfl).comp
      (sensorNotice_only ..) rfl rfl
  · exact (updSensor_only s n _).comp (sensorNotice_only ..) rfl rfl

theorem countFailure_only (n : Fin 8) (f : Failure) (s : State) :
    Only [.temp, .target, .ports] s (countFailure n f s) := by
  unfold countFailure
  simp only
  split
  · split
    · exact ((updSensor_only s n _).comp (n := [.temp, .target, .ports]) (raise_only ..) rfl rfl).comp
        (sensorNotice_only ..) rfl rfl
    · exact (updSensor_only s n _).comp (raise_only ..) rfl rfl
  · exact (updSensor_only s n _).mono rfl

theorem applyOutcome_only (n : Fin 8) (o : Outcome) (s : State) :
    Only [.temp, .target, .ports] s (applyOutcome n o s) := by
  unfold applyOutcome
  split
  · exact acceptReading_only ..
  · exact countFailure_only ..

theorem becomeStale_only (n : Fin 8) (s : State) : Only [.temp, .target, .ports] s (becomeStale n s) :=
  (updSensor_only s n _).comp (sensorNotice_only ..) rfl rfl

theorem voidIfInFlight_only (n : Fin 8) (s : State) : Only [.temp] s (voidIfInFlight n s) := by
  unfold voidIfInFlight
  split
  · split
    · exact setRound_only ..
    · exact Only.refl ..
  · exact Only.refl ..

theorem noticeIfLeft_only (n : Fin 8) (b : SensorStatus) (s : State) :
    Only [.target, .ports] s (noticeIfLeft n b s) := by
  unfold noticeIfLeft
  split
  · exact sensorNotice_only ..
  · exact Only.refl ..

theorem setupSlot_only (n : Fin 8) (f : SensorFields) (s : State) :
    Only [.temp, .settings] s (setupSlot n f s) :=
  (updSensor_only s n _).comp (settings_only ..) rfl rfl

/-! ### Chapter 10 -/

theorem lowerOverride_only (s : State) : Only [.store] s (Machine.lowerOverride s) := updStore_only ..

theorem storeGoOn_only (s : State) : Only [.store] s (storeGoOn s) := by
  unfold storeGoOn
  split <;> exact updStore_only ..

theorem beginWrite_only (p : Port) (c : WriteCommand) (n : SectorNo) (x : Contents) (s : State) :
    Only [.store] s (beginWrite p c n x s) := by
  unfold beginWrite
  split
  · exact (updSector_only s n _).trans (updStore_only ..)
  · exact updStore_only ..

theorem writeCommand_only (p : Port) (c : WriteCommand) (b : Bool) (n : Option SectorNo) (m : Bool)
    (x : Contents) (s : State) : Only [.store, .ports] s (writeCommand p c b n m x s) := by
  unfold writeCommand
  split
  · exact (beginWrite_only ..).comp (answer_only ..) rfl rfl
  · exact (lowerOverride_only s).comp (answer_only ..) rfl rfl
  · exact (lowerOverride_only s).comp (answer_only ..) rfl rfl

theorem endOperation_only (op : Operation) (f : Option StoreFaultKind) (s : State) :
    Only [.store, .ports] s (endOperation op f s) := by
  unfold endOperation
  simp only
  have h := (updStore_only s fun x => { x with op := none }).trans (storeGoOn_only _)
  split
  · exact (h.comp (n := [.store, .ports]) (raise_only ..) rfl rfl).comp (lowerOverride_only ..) rfl rfl
  · exact ((h.comp (n := [.store, .ports]) (updStore_only ..) rfl rfl).comp (n := [.store, .ports])
      (raise_only ..) rfl rfl).comp (lowerOverride_only ..) rfl rfl

theorem leaveCorrupt_only (n : SectorNo) (s : State) : Only [.store] s (leaveCorrupt n s) := updStore_only ..

theorem erasePassed_only (op : Operation) (s : State) : Only [.store, .ports] s (erasePassed op s) := by
  unfold erasePassed
  simp only
  have h : Only [.store] s (leaveCorrupt op.sector (s.updSector op.sector fun x =>
      { x with
        lock := false, state := .blank, contents := .erased, check := 0#32,
        mark := x.mark && decide (op.command ≠ .eraseSector) })) :=
    (updSector_only s op.sector _).trans (leaveCorrupt_only ..)
  split
  · exact h.comp (endOperation_only ..) rfl rfl
  · exact h.comp (updStore_only ..) rfl rfl

theorem eraseFailed_only (op : Operation) (s : State) : Only [.store, .ports] s (eraseFailed op s) :=
  (updSector_only s op.sector _).comp (endOperation_only ..) rfl rfl

theorem programPassed_only (op : Operation) (s : State) : Only [.store, .ports] s (programPassed op s) := by
  have h := fun f => (updSector_only s op.sector f).trans (leaveCorrupt_only op.sector _)
  exact (h _).comp (endOperation_only op none _) rfl rfl

theorem programFailed_only (op : Operation) (s : State) : Only [.store, .ports] s (programFailed op s) :=
  (updSector_only s op.sector _).comp (endOperation_only ..) rfl rfl

theorem recallFailed_only (p : Port) (s : State) : Only [.store] s (recallFailed p s) := by
  unfold recallFailed
  split
  · exact updStore_only ..
  · exact Only.refl ..

theorem serveRecall_only (s : State) : Only [.store] s (serveRecall s) := by
  unfold serveRecall
  split <;> first | exact storeGoOn_only .. | exact updStore_only .. | exact Only.refl ..

theorem failRecall_only (r : Recall) (w : SceneFailure) (s : State) :
    Only [.store, .ports] s (failRecall r w s) :=
  (recallFailed_only r.port s).comp (raiseAll_only ..) rfl rfl

theorem succeedRecall_only (r : Recall) (s : State) : Only [.store] s (succeedRecall r s) := by
  unfold succeedRecall
  split
  · exact updStore_only ..
  · exact Only.refl ..

theorem readEnd_only (r : Recall) (b : Bool) (s : State) : Only [.store, .ports, .queue] s (readEnd r b s) := by
  unfold readEnd
  split
  · exact (updSector_only s _ _).comp (failRecall_only ..) rfl rfl
  · simp only
    split
    · exact (failRecall_only ..).mono rfl
    · exact (offer_only _ s).comp (succeedRecall_only ..) rfl rfl
    · exact (offer_only _ s).comp (succeedRecall_only ..) rfl rfl

/-! ### Chapter 11 -/

theorem applySettings_only (x : Settings) (s : State) :
    Only [.settings, .queue, .target, .ports] s (applySettings x s) := by
  unfold applySettings
  simp only
  have h : Only [.settings, .queue, .target, .ports] s
      { s with settings := x, queue := lowerBypass x.bypassMax s.queue } :=
    (settings_only s x).comp (queue_only _ (lowerBypass x.bypassMax s.queue)) rfl rfl
  split
  · exact h
  · exact h.comp (tRefChanged_only ..) rfl rfl

theorem updNote_only (s : State) (p : Port) (k : Fin 16) (f : NoteFlag → NoteFlag) :
    Only [.ports] s (s.updNote p k f) := updPort_only ..

theorem superviseStart_only (n : Nat) (s : State) : Only [.supervision, .ports] s (superviseStart n s) := by
  unfold superviseStart
  simp only
  split
  · exact (supervision_only s _).comp (raiseAll_only ..) rfl rfl
  · exact (supervision_only s _).mono rfl

theorem superviseStop_only (s : State) : Only [.supervision, .ports] s (superviseStop s) := by
  unfold superviseStop
  simp only
  split
  · exact (supervision_only s _).comp (raiseAll_only ..) rfl rfl
  · exact (supervision_only s _).mono rfl

theorem supervisionExpire_only (s : State) : Only [.supervision, .ports] s (supervisionExpire s) :=
  (supervision_only s _).comp (raiseAll_only ..) rfl rfl

/-! ### The audio clock -/

theorem takeIf_only {l : List Part} {f : State → State} (b : Bool) (s : State) (h : Only l s (f s)) :
    Only l s (takeIf b f s) := by
  unfold takeIf
  split
  · exact h
  · exact Only.refl ..

/-- The parts the events left over from a frame mark may change. -/
def Part.settling : List Part :=
  [.entry, .target, .eq, .gain, .route, .power, .queue, .eqWait, .temp, .probe, .ports, .supervision]

theorem settle_only (s : State) : Only Part.settling s (settle s) := by
  let s1 := allSlots.foldl (fun s n => takeIf (staleDue s n) (becomeStale n) s) s
  let s2 := takeIf (supervisionDue s1) supervisionExpire s1
  let s3 := takeIf (pollDue s2) pollExpiry s2
  let s4 := s3.eachZone fun z s => takeIf (wakeDue z s) (wakeFinish z) s
  let s5 := s4.eachZone fun z s => takeIf (drainDue z s) (drainFinish z) s
  let s6 := takeIf (changeDue s5) completeHand s5
  let s7 := takeIf (windowDue s6) closeWindow s6
  let s8 := takeIf (periodDue s7) (Machine.periodEnd 0) s7
  have h1 : Only Part.settling s s1 :=
    Only.foldl _ (fun s n => takeIf_only _ s ((becomeStale_only n s).mono rfl)) _ _
  have h2 : Only Part.settling s1 s2 := takeIf_only _ _ ((supervisionExpire_only _).mono rfl)
  have h3 : Only Part.settling s2 s3 := takeIf_only _ _ ((pollExpiry_only _).mono rfl)
  have h4 : Only Part.settling s3 s4 :=
    Only.eachZone _ (fun z s => takeIf_only _ s ((wakeFinish_only z s).mono rfl)) _
  have h5 : Only Part.settling s4 s5 :=
    Only.eachZone _ (fun z s => takeIf_only _ s ((drainFinish_only z s).mono rfl)) _
  have h6 : Only Part.settling s5 s6 := takeIf_only _ _ ((completeHand_only _).mono rfl)
  have h7 : Only Part.settling s6 s7 := takeIf_only _ _ ((closeWindow_only _).mono rfl)
  have h8 : Only Part.settling s7 s8 := takeIf_only _ _ ((periodEnd_only 0 _).mono rfl)
  have h9 : Only Part.settling s8 (Machine.periodOpen s8) := (periodOpen_only _).mono rfl
  exact (((((((h1.trans h2).trans h3).trans h4).trans h5).trans h6).trans h7).trans h8).trans h9

theorem settleSamples_only (s : State) :
    Only [.eq, .gain, .route, .power, .eqWait, .probe] s (settleSamples s) := by
  refine Only.trans (Only.eachZone (fun z s => takeIf (crossfadeDue z s) (crossfadeFinish z) s)
    (fun z s => takeIf_only _ s ((crossfadeFinish_only z s).mono rfl)) s) ?_
  exact Only.eachZone (fun z s => takeIf (s.zone z).route.fade.done (fadeFinish z) s)
    (fun z s => takeIf_only _ s ((fadeFinish_only z s).mono rfl)) _

theorem gainZone_only (z : Zone) (s : State) : Only [.gain, .route] s (gainZone z s) := by
  unfold gainZone
  simp only
  split
  · exact (updRoute_only s z _).comp (updGain_only ..) rfl rfl
  · exact (updGain_only ..).mono rfl

theorem ampSent_only (s : State) (v : Vector Bool 32) : Only [.ampSent] s { s with ampSent := v } :=
  Only.fields (by rintro ⟨⟩ hp <;> first | rfl | exact fun _ => rfl | simp at hp)

/-- The parts the work of a frame mark may change. -/
def Part.marking : List Part :=
  [.entry, .target, .line, .eq, .gain, .route, .power, .eqWait, .history, .probe, .ports, .ampSent]

theorem doWork_only (w : MarkWork) (s : State) : Only Part.marking s (doWork w s) := by
  cases w with
  | transfer => exact (transferWork_only s).mono rfl
  | slew => exact (slewWork_only s).mono rfl
  | limiter => exact (limiterWork_only s).comp (probeTest_only ..) rfl rfl
  | gain => exact (Only.eachZone _ gainZone_only s).mono rfl
  | probe => exact (probeWork_only s).mono rfl
  | amplifier => exact (ampSent_only s _).mono rfl

/-- The counters of a frame mark away from the zones. -/
theorem tickRest_only (s : State) (q : ChangeQueue) (w : Supervision) (t : TempUnit) (x : ProbeUnit)
    (u : StoreUnit) (n : Nat) (b : Bool) :
    Only [.queue, .supervision, .temp, .probe, .store, .sampleIndex, .atMark] s
      { s with
        queue := q, supervision := w, temp := t, probe := x, store := u, sampleIndex := n, atMark := b } :=
  Only.fields (by rintro ⟨⟩ hp <;> first | rfl | exact fun _ => rfl | simp at hp)

/-- The counters of a frame mark change the counters alone. -/
theorem tick_only (s : State) :
    Only [.power, .queue, .supervision, .temp, .probe, .store, .sampleIndex, .atMark] s (tick s) := by
  have h := Only.eachZone (l := [.power]) _ (fun z s => updPower_only s z PowerUnit.tick) s
  exact h.comp (tickRest_only _ _ _ _ _ _ _ _) rfl rfl

theorem feedZone_only (x : Vector Sample 8) (y : Sample) (z : Zone) (s : State) :
    Only [.route, .eq, .gain, .ports] s (feedZone x y z s).1 := by
  unfold feedZone
  simp only
  have h := fun f g => (updRoute_only s z f).comp (n := [.route, .eq, .gain, .ports])
    (updEq_only (s.updRoute z f) z g) rfl rfl
  split
  · exact (h _ _).comp (clipCount_only ..) rfl rfl
  · exact h _ _

theorem delayZone_only (z : Zone) (x : Sample) (s : State) : Only [.mem, .line] s (delayZone z x s).1 := by
  have h := fun m f => (mem_only s m).comp (n := [.mem, .line]) (updLine_only _ z f) rfl rfl
  simp only [delayZone]
  exact h _ _

theorem scaleZone_only (z : Zone) (k : Nat) (y : Sample) (s : State) :
    Only [.gain, .ports, .tdmOut] s (scaleZone z k y s) := by
  unfold scaleZone
  simp only
  have h := updGain_only s z fun g => { g with applied := s.factor z k }
  split
  · exact (h.comp (n := [.gain, .ports, .tdmOut]) (clipCount_only ..) rfl rfl).comp (tdmOut_only ..) rfl rfl
  · exact h.comp (tdmOut_only ..) rfl rfl

/-- The parts the chains of a sample period may change. -/
def Part.sounding : List Part := [.route, .eq, .gain, .line, .mem, .ports, .tdmOut]

theorem sampleZone_only (x : Vector Sample 8) (y : Sample) (k : Nat) (z : Zone) (s : State) :
    Only Part.sounding s (sampleZone x y k z s) := by
  unfold sampleZone
  simp only
  split
  · exact ((feedZone_only x y z s).comp (n := Part.sounding) (delayZone_only ..) rfl rfl).comp (scaleZone_only ..) rfl rfl
  · exact (tdmOut_only ..).mono rfl

theorem probeListen_only (x : Vector Sample 8) (s : State) : Only [.probe] s (probeListen x s) := by
  unfold probeListen
  split
  · exact updProbe_only ..
  · exact Only.refl ..

/-- The frame position of a sample period. -/
theorem index_only (s : State) (n : Nat) (b : Bool) :
    Only [.sampleIndex, .atMark] s { s with sampleIndex := n, atMark := b } :=
  Only.fields (by rintro ⟨⟩ hp <;> first | rfl | exact fun _ => rfl | simp at hp)

theorem samplePeriod_only (x : Vector Sample 8) (s : State) :
    Only [.route, .eq, .gain, .line, .mem, .ports, .tdmOut, .sampleIndex, .atMark, .probe] s
      (Machine.samplePeriod x s) := by
  unfold Machine.samplePeriod
  have h := index_only s (nextIndex s) false
  have k := fun t => Only.eachZone _ (fun z t => sampleZone_only x (probeSample s) (nextIndex s) z t) t
  exact ((h.mono rfl).trans ((k _).mono rfl)).trans ((probeListen_only x _).mono rfl)

/-! ### Answers and checks -/

theorem guarded_only {l : List Part} (s : State) (p : Port) (code : Nat) (b : Bool) (f : State → State)
    (hl : .ports ∈ l) (h : Only l s (f s)) : Only l s (guarded s p code b f) := by
  have k : ∀ r, Only l s (s.answer p code r []) := fun r =>
    (answer_only ..).mono (by simpa [Part.among] using hl)
  unfold guarded
  split
  · exact k _
  · split
    · exact h
    · exact k _

theorem checked_only {α : Type} {l : List Part} (s : State) (p : Port) (code : Nat) (v : Option α)
    (f : α → State) (hl : .ports ∈ l) (h : ∀ a, Only l s (f a)) : Only l s (checked s p code v f) := by
  unfold checked
  split
  · exact h _
  · exact (answer_only ..).mono (by simpa [Part.among] using hl)

end Sys2Proof.Machine
end

