-- ==== Sys2Proof/Laws/Memory.lean ====
section
/-! SUPPORT. Delay memory: a read after a write, what a write and a clear leave alone, and that every memory
operation keeps the canonical form. -/

namespace Sys2Proof.Machine

/-! ### Reading after an operation -/

theorem memRead_memInsert_same (m : List MemCell) (a : Nat) (v : Sample) :
    memRead (memInsert a v m) a = v := by
  induction m with
  | nil => simp [memInsert, memRead]
  | cons c m ih =>
    obtain ⟨b, w⟩ := c
    simp only [memInsert]
    split
    · simp [memRead]
    · split
      · simp [memRead]
      · next h => simp [memRead, h, ih]

theorem memRead_memInsert_other (m : List MemCell) {a k : Nat} (v : Sample) (h : k ≠ a) :
    memRead (memInsert a v m) k = memRead m k := by
  induction m with
  | nil => simp [memInsert, memRead, h]
  | cons c m ih =>
    obtain ⟨b, w⟩ := c
    simp only [memInsert]
    split
    · simp [memRead, h]
    · split
      · next e => subst e; simp [memRead, h]
      · simp only [memRead, ih]

/-- An address that a filter removes reads as unlisted. -/
theorem memRead_filter_out (m : List MemCell) (keep : Nat → Bool) {k : Nat} (h : keep k = false) :
    memRead (m.filter fun c => keep c.1) k = unlistedSample := by
  induction m with
  | nil => rfl
  | cons c m ih =>
    obtain ⟨b, w⟩ := c
    by_cases hb : keep b = true
    · have hk : k ≠ b := fun e => by rw [e, hb] at h; cases h
      simpa [List.filter_cons, hb, memRead, hk] using ih
    · simpa [List.filter_cons, hb] using ih

/-- An address that a filter keeps reads as before. -/
theorem memRead_filter_in (m : List MemCell) (keep : Nat → Bool) {k : Nat} (h : keep k = true) :
    memRead (m.filter fun c => keep c.1) k = memRead m k := by
  induction m with
  | nil => rfl
  | cons c m ih =>
    obtain ⟨b, w⟩ := c
    by_cases hb : keep b = true
    · simp [hb, memRead, ih]
    · have hk : k ≠ b := fun e => hb (e ▸ h)
      simpa [List.filter_cons, hb, memRead, hk] using ih

/-- The address written reads as the sample written. -/
@[simp] theorem memRead_memWrite_same (m : List MemCell) (a : Nat) (v : Sample) :
    memRead (memWrite m a v) a = v := by
  unfold memWrite
  split
  · next h => exact (memRead_filter_out m (fun b => decide (b ≠ a)) (by simp)).trans h.symm
  · exact memRead_memInsert_same ..

/-- Every other address reads as before. -/
theorem memRead_memWrite_other (m : List MemCell) {a k : Nat} (v : Sample) (h : k ≠ a) :
    memRead (memWrite m a v) k = memRead m k := by
  unfold memWrite
  split
  · exact memRead_filter_in m (fun b => decide (b ≠ a)) (by simpa using h)
  · exact memRead_memInsert_other m v h

/-- A cleared address reads as 0 (R64). -/
theorem memRead_memClear_in (m : List MemCell) {a n k : Nat} (h : a ≤ k ∧ k < a + n) :
    memRead (memClear m a n) k = 0#24 :=
  memRead_filter_out m (fun b => decide (b < a ∨ a + n ≤ b)) (by simp; omega)

/-- An address outside a clear reads as before. -/
theorem memRead_memClear_out (m : List MemCell) {a n k : Nat} (h : k < a ∨ a + n ≤ k) :
    memRead (memClear m a n) k = memRead m k :=
  memRead_filter_in m (fun b => decide (b < a ∨ a + n ≤ b)) (by simpa using h)

/-! ### The canonical form -/

theorem memInsert_mem {m : List MemCell} {a : Nat} {v : Sample} {c : MemCell} (h : c ∈ memInsert a v m) :
    c = (a, v) ∨ c ∈ m := by
  induction m with
  | nil => exact .inl (by simpa [memInsert] using h)
  | cons d m ih =>
    obtain ⟨b, w⟩ := d
    simp only [memInsert] at h
    split at h
    · simpa using h
    · split at h
      · rcases List.mem_cons.mp h with h | h
        · exact .inl h
        · exact .inr (List.mem_cons_of_mem _ h)
      · rcases List.mem_cons.mp h with h | h
        · exact .inr (by simp [h])
        · exact (ih h).imp id fun h => List.mem_cons_of_mem _ h

theorem memInsert_wf {m : List MemCell} (a : Nat) {v : Sample} (hv : v ≠ unlistedSample) (h : Memory.wf m) :
    Memory.wf (memInsert a v m) := by
  refine ⟨?_, fun c hc => (memInsert_mem hc).elim (fun e => e ▸ hv) (h.2 c)⟩
  obtain ⟨h, -⟩ := h
  induction m with
  | nil => simp [memInsert]
  | cons d m ih =>
    obtain ⟨b, w⟩ := d
    obtain ⟨hb, hm⟩ := List.pairwise_cons.mp h
    simp only [memInsert]
    split
    · next lt =>
      exact List.pairwise_cons.mpr
        ⟨fun c hc => by
          rcases List.mem_cons.mp hc with e | hc
          · exact e ▸ lt
          · exact Nat.lt_trans lt (hb c hc), h⟩
    · split
      · next e => exact List.pairwise_cons.mpr ⟨fun c hc => e ▸ hb c hc, hm⟩
      · next ne nlt =>
        refine List.pairwise_cons.mpr ⟨fun c hc => ?_, ih hm⟩
        rcases memInsert_mem hc with e | hc
        · subst e
          simp only
          omega
        · exact hb c hc

/-- A filter keeps the canonical form. -/
theorem filter_wf {m : List MemCell} (keep : MemCell → Bool) (h : Memory.wf m) : Memory.wf (m.filter keep) :=
  ⟨h.1.filter keep, fun c hc => h.2 c (List.mem_of_mem_filter hc)⟩

/-- A write keeps the canonical form. -/
theorem memWrite_wf {m : List MemCell} (a : Nat) (v : Sample) (h : Memory.wf m) : Memory.wf (memWrite m a v) := by
  unfold memWrite
  split
  · exact filter_wf _ h
  · next hv => exact memInsert_wf a hv h

/-- A clear keeps the canonical form. -/
theorem memClear_wf {m : List MemCell} (a n : Nat) (h : Memory.wf m) : Memory.wf (memClear m a n) :=
  filter_wf _ h

/-- The memory after a reset has the canonical form. -/
theorem reset_memory_wf : Memory.wf State.reset.mem := ⟨.nil, fun _ h => nomatch h⟩

end Sys2Proof.Machine
end

