-- ==== Sys2Proof/Laws/Ops.lean ====
section
/-! SUPPORT. What the shared operations can do, said once: ports and links, the checks of a command, events,
settling, and the queue. -/

namespace Sys2Proof.Machine

/-! ### Ports, links and answers -/

/-- The places of the ports are apart. -/
theorem portPlace_injective {p q : Port} (h : portPlace p = portPlace q) : p = q := by
  cases p <;> cases q <;> first | rfl | exact absurd h (by decide)

/-- The port that is changed reads as changed. -/
@[simp] theorem State.port_updPort_same (s : State) (p : Port) (f : PortState → PortState) :
    (s.updPort p f).port p = f (s.port p) := by
  simp [State.port, State.updPort]

/-- Another port reads as before. -/
theorem State.port_updPort_other (s : State) {p q : Port} (f : PortState → PortState) (h : q ≠ p) :
    (s.updPort p f).port q = s.port q := by
  have h' : (portPlace p).val ≠ (portPlace q).val := fun e => h (portPlace_injective (Fin.ext e.symm))
  simp [State.port, State.updPort, h']

@[simp] theorem State.port_updLink_same (s : State) (p : Port) (f : Link → Link) :
    (s.updLink p f).port p = { s.port p with link := f (s.port p).link } := by
  simp [State.updLink]

theorem State.port_updLink_other (s : State) {p q : Port} (f : Link → Link) (h : q ≠ p) :
    (s.updLink p f).port q = s.port q := State.port_updPort_other s _ h

/-- An answer stands in the transmitter of its link. -/
@[simp] theorem State.answer_tx (s : State) (p : Port) (code : Nat) (r : Result) (b : List Byte) :
    ((s.answer p code r b).port p).link.tx =
      some { cmd := byteOf (code + 0x80), result := r, payload := b, restarts := false } := by
  simp [State.answer, State.respond]

/-- An answer leaves the event kinds of every port. -/
@[simp] theorem State.answer_notes (s : State) (p q : Port) (code : Nat) (r : Result) (b : List Byte) :
    (s.answer p code r b).notes q = s.notes q := by
  by_cases h : q = p
  · subst h; simp [State.answer, State.respond, State.notes]
  · simp [State.answer, State.respond, State.notes, State.port_updLink_other _ _ h]

/-- An answer leaves every zone. -/
@[simp] theorem State.answer_zone (s : State) (p : Port) (code : Nat) (r : Result) (b : List Byte) (z : Zone) :
    (s.answer p code r b).zone z = s.zone z := rfl

/-- An answer replies. -/
theorem answer_replies (s : State) (p : Port) (code : Nat) (r : Result) (b : List Byte) :
    Replies (s.answer p code r b) p code r := ⟨b, s.answer_tx p code r b⟩

/-! ### The checks of a command -/

theorem guarded_starting {s : State} (h : s.starting = true) (p : Port) (code : Nat) (b : Bool)
    (f : State → State) : guarded s p code b f = s.answer p code .starting [] := if_pos h

theorem guarded_denied {s : State} (h : s.starting = false) (p : Port) (code : Nat) (f : State → State) :
    guarded s p code false f = s.answer p code .notPermitted [] := by
  simp [guarded, h]

theorem guarded_passed {s : State} (h : s.starting = false) (p : Port) (code : Nat) (f : State → State) :
    guarded s p code true f = f s := by
  simp [guarded, h]

@[simp] theorem checked_some {α : Type} (s : State) (p : Port) (code : Nat) (a : α) (f : α → State) :
    checked s p code (some a) f = f a := rfl

@[simp] theorem checked_none {α : Type} (s : State) (p : Port) (code : Nat) (f : α → State) :
    checked s p code none f = s.answer p code .badValue [] := rfl

/-- A zone number in range is the zone it names. -/
@[simp] theorem zoneOf_val (z : Zone) : zoneOf z.val = some z := by
  simp [zoneOf, toFin]

/-- A zone number out of range names none. -/
theorem zoneOf_none {n : Nat} (h : 32 ≤ n) : zoneOf n = none := by
  have : ¬ n < 32 := by omega
  simp [zoneOf, toFin, this]

/-- A zone set in range names its zones in zone order. -/
theorem zoneSet_some {l : List Nat} (h : l.length ≤ 32) (k : ∀ n ∈ l, n < 32) :
    zoneSet l = some (allZones.filter fun z => decide (z.val ∈ l)) := by
  simp [zoneSet, h]
  exact k

/-! ### The turn of a command (log entry 3) -/

@[simp] theorem andThen_next (s : State) (f : State → Answer) : andThen (.next s) f = f s := rfl

/-- With the transmitter idle a row of a command is carried out at once (R188). -/
theorem atTurn_idle {s : State} {p : Port} (h : (s.port p).link.tx = none) (f : State → Answer) :
    atTurn p f s = f s := by
  simp [atTurn, endResponses, h]

/-! ### Settling (log entry 5) -/

theorem takeIf_false (f : State → State) (s : State) : takeIf false f s = s := rfl

theorem takeIf_true (f : State → State) (s : State) : takeIf true f s = f s := rfl

/-- A fold over zones that changes nothing. -/
theorem State.eachZone_id (f : Zone → State → State) (s : State) (h : ∀ z, f z s = s) : s.eachZone f = s := by
  have : ∀ l : List Zone, l.foldl (fun s z => f z s) s = s := fun l => by
    induction l with
    | nil => rfl
    | cons z l ih => rw [List.foldl_cons, h, ih]
  exact this allZones

theorem periodOpen_none {s : State} (h : s.probe.state.run ≠ some (.toOpen 0)) : Machine.periodOpen s = s := by
  unfold Machine.periodOpen
  split
  · next e => exact absurd e h
  · rfl

/-- With nothing due, settling changes nothing. -/
theorem NothingDue.settle_eq {s : State} (h : NothingDue s) : settle s = s := by
  have slots : allSlots.foldl (fun s n => takeIf (staleDue s n) (becomeStale n) s) s = s := by
    have : ∀ l : List (Fin 8), l.foldl (fun s n => takeIf (staleDue s n) (becomeStale n) s) s = s := fun l => by
      induction l with
      | nil => rfl
      | cons n l ih => rw [List.foldl_cons, h.stale n, takeIf_false, ih]
    exact this allSlots
  unfold settle
  simp only [slots, h.supervision, takeIf_false, h.poll,
    State.eachZone_id (fun z s => takeIf (wakeDue z s) (wakeFinish z) s) s
      (fun z => by rw [h.wake z, takeIf_false]),
    State.eachZone_id (fun z s => takeIf (drainDue z s) (drainFinish z) s) s
      (fun z => by rw [h.drain z, takeIf_false]),
    h.change, h.window, h.period, periodOpen_none h.opening]

/-- With no fade and no crossfade at its end, nothing ends. -/
theorem NothingEnding.settleSamples_eq {s : State} (h : NothingEnding s) : settleSamples s = s := by
  unfold settleSamples
  simp only [State.eachZone_id (fun z s => takeIf (crossfadeDue z s) (crossfadeFinish z) s) s
      (fun z => by rw [(h z).1, takeIf_false]),
    State.eachZone_id (fun z s => takeIf (s.zone z).route.fade.done (fadeFinish z) s) s
      (fun z => by rw [(h z).2, takeIf_false])]

/-! ### The queue -/

/-- An offer with the key of an entry of the queue replaces that entry's payload (R23). -/
theorem offer_merges {e : QueueEntry} {s : State} {i : Nat}
    (h : s.queue.entries.findIdx? (fun x => x.sameKey e) = some i) :
    offer e s = { s with queue := { s.queue with entries := mergeInto e s.queue.entries } } := by
  simp [offer, offerOutcome, h, offered]

/-- An offer without a key in the queue and without room changes nothing (R24). -/
theorem offer_full {e : QueueEntry} {s : State} (h : s.queue.entries.findIdx? (fun x => x.sameKey e) = none)
    (k : s.queue.hasRoom e.port = false) : offer e s = s := by
  simp [offer, offerOutcome, h, k, offered]

/-- An offer without a key in the queue is appended where there is room, and a taking follows (R24, R27). -/
theorem offer_appends {e : QueueEntry} {s : State} (h : s.queue.entries.findIdx? (fun x => x.sameKey e) = none)
    (k : s.queue.hasRoom e.port = true) :
    offer e s = takeNext { s with queue := { s.queue with entries := s.queue.entries ++ [e] } } := by
  simp [offer, offerOutcome, h, k, offered]

/-- An APPLYING unit takes nothing (R27). -/
theorem takeNext_applying {s : State} (h : s.queue.hand.isSome = true) : takeNext s = s := by
  unfold takeNext
  split
  · next e _ => rw [e] at h; cases h
  · rfl

end Sys2Proof.Machine
end

