-- ==== Sys2Proof/Laws/PerInstr.lean ====
section
/-! SUPPORT. Statements made per command: a row has a code in the table of R189 exactly where it has an issuing
port, and its code lies in 0x01 to 0x32. -/

namespace Sys2Proof.Laws.Numbered

/-- A row has a code in the table of R189 exactly where it has an issuing port, and its code is one the table
lists. -/
def Statement (i : Instr) : Prop :=
  (commandCode i).isSome = (commandPort i).isSome ∧ ∀ c, commandCode i = some c → 1 ≤ c ∧ c ≤ 0x32

/-- A row of the table of R189. -/
theorem of_command {i : Instr} {p : Port} {c : Nat} (hc : commandCode i = some c) (hp : commandPort i = some p)
    (h : 1 ≤ c ∧ c ≤ 0x32) : Statement i :=
  ⟨by rw [hc, hp]; rfl, fun d hd => by rw [hc] at hd; injection hd with e; exact e ▸ h⟩

/-- A row that is no command of the table of R189. -/
theorem of_event {i : Instr} (hc : commandCode i = none) (hp : commandPort i = none) : Statement i :=
  ⟨by rw [hc, hp]; rfl, fun d hd => by rw [hc] at hd; cases hd⟩

theorem coldReset : Statement (.coldReset) := of_event rfl rfl
theorem startupDone : Statement (.startupDone) := of_event rfl rfl
theorem frameMark (order : List MarkWork) : Statement (.frameMark order) := of_event rfl rfl
theorem samplePeriod (inputs : Vector Sample 8) : Statement (.samplePeriod inputs) := of_event rfl rfl
theorem changeComplete : Statement (.changeComplete) := of_event rfl rfl
theorem wakeTimeElapsed (z : Zone) : Statement (.wakeTimeElapsed z) := of_event rfl rfl
theorem drainTimeElapsed (z : Zone) : Statement (.drainTimeElapsed z) := of_event rfl rfl
theorem fadeEnd (z : Zone) : Statement (.fadeEnd z) := of_event rfl rfl
theorem crossfadeEnd (z : Zone) : Statement (.crossfadeEnd z) := of_event rfl rfl
theorem supervisionExpiry : Statement (.supervisionExpiry) := of_event rfl rfl
theorem pollTimerExpiry : Statement (.pollTimerExpiry) := of_event rfl rfl
theorem sensorTransactionEnd (bus : BusOutcome) : Statement (.sensorTransactionEnd bus) := of_event rfl rfl
theorem sensorStale (slot : Fin 8) : Statement (.sensorStale slot) := of_event rfl rfl
theorem trigEdge (edge : Edge) : Statement (.trigEdge edge) := of_event rfl rfl
theorem periodOpen : Statement (.periodOpen) := of_event rfl rfl
theorem windowClose : Statement (.windowClose) := of_event rfl rfl
theorem periodEnd : Statement (.periodEnd) := of_event rfl rfl
theorem eraseComplete (pass : Bool) : Statement (.eraseComplete pass) := of_event rfl rfl
theorem programComplete (pass : Bool) : Statement (.programComplete pass) := of_event rfl rfl
theorem lockComplete (pass : Bool) : Statement (.lockComplete pass) := of_event rfl rfl
theorem suspensionEvent : Statement (.suspensionEvent) := of_event rfl rfl
theorem sceneReadEnd (sound : Bool) : Statement (.sceneReadEnd sound) := of_event rfl rfl
theorem frameReceived (p : Port) : Statement (.frameReceived p) := of_event rfl rfl
theorem linkGap (p : Port) : Statement (.linkGap p) := of_event rfl rfl
theorem responseSent (p : Port) : Statement (.responseSent p) := of_event rfl rfl
theorem unknownCommand (p : Port) (cmd : Byte) : Statement (.unknownCommand p cmd) := of_event rfl rfl
theorem readRecord (p : Port) (zone : Nat) (copy : Choice) : Statement (.readRecord p zone copy) :=
  of_command rfl rfl (by decide)
theorem gain (p : Port) (zone : ZoneSel) (code : Int) (mute : Choice) : Statement (.gain p zone code mute) :=
  of_command rfl rfl (by decide)
theorem eqSelect (p : Port) (zone : ZoneSel) (select : Nat) : Statement (.eqSelect p zone select) :=
  of_command rfl rfl (by decide)
theorem eqBank (p : Port) (zone : ZoneSel) (bank : Nat) (sections : List SectionArg) :
    Statement (.eqBank p zone bank sections) :=
  of_command rfl rfl (by decide)
theorem geometry (p : Port) (zone : ZoneSel) (values : GeometryArg) : Statement (.geometry p zone values) :=
  of_command rfl rfl (by decide)
theorem coupling (p : Port) (zone : ZoneSel) (value : Option CouplingArg) : Statement (.coupling p zone value) :=
  of_command rfl rfl (by decide)
theorem timing (p : Port) (zone : ZoneSel) (values : TimingArg) : Statement (.timing p zone values) :=
  of_command rfl rfl (by decide)
theorem evacGain (p : Port) (zone : ZoneSel) (code : Int) : Statement (.evacGain p zone code) :=
  of_command rfl rfl (by decide)
theorem readQueue (p : Port) : Statement (.readQueue p) := of_command rfl rfl (by decide)
theorem readTargets (p : Port) (zones : List Nat) : Statement (.readTargets p zones) :=
  of_command rfl rfl (by decide)
theorem allocate (p : Port) (zone : Nat) (allocation : Option AllocArg) :
    Statement (.allocate p zone allocation) :=
  of_command rfl rfl (by decide)
theorem readDelayMap (p : Port) : Statement (.readDelayMap p) := of_command rfl rfl (by decide)
theorem sensorSetup (p : Port) (slot : Nat) (enabled : Choice) (address : Nat) :
    Statement (.sensorSetup p slot enabled address) :=
  of_command rfl rfl (by decide)
theorem sensorManual (p : Port) (slot : Nat) (value : Int) : Statement (.sensorManual p slot value) :=
  of_command rfl rfl (by decide)
theorem sensorAuto (p : Port) (slot : Nat) : Statement (.sensorAuto p slot) := of_command rfl rfl (by decide)
theorem readSensors (p : Port) : Statement (.readSensors p) := of_command rfl rfl (by decide)
theorem clearClip (p : Port) (zones : List Nat) : Statement (.clearClip p zones) :=
  of_command rfl rfl (by decide)
theorem readChain (p : Port) (zones : List Nat) : Statement (.readChain p zones) :=
  of_command rfl rfl (by decide)
theorem routeRaise (p : Port) (zones : List Nat) (source : Nat) (level : Nat) :
    Statement (.routeRaise p zones source level) :=
  of_command rfl rfl (by decide)
theorem routeDrop (p : Port) (zones : List Nat) (source : Nat) : Statement (.routeDrop p zones source) :=
  of_command rfl rfl (by decide)
theorem routeDropAll (p : Port) : Statement (.routeDropAll p) := of_command rfl rfl (by decide)
theorem readRoutes (p : Port) (zones : List Nat) : Statement (.readRoutes p zones) :=
  of_command rfl rfl (by decide)
theorem enableZone (p : Port) (zone : Nat) : Statement (.enableZone p zone) := of_command rfl rfl (by decide)
theorem disableZone (p : Port) (zone : Nat) : Statement (.disableZone p zone) :=
  of_command rfl rfl (by decide)
theorem readPower (p : Port) (zones : List Nat) : Statement (.readPower p zones) :=
  of_command rfl rfl (by decide)
theorem probeSetup (p : Port) (values : ProbeArg) : Statement (.probeSetup p values) :=
  of_command rfl rfl (by decide)
theorem probeRun (p : Port) (trigger : Option Choice) : Statement (.probeRun p trigger) :=
  of_command rfl rfl (by decide)
theorem probeStop (p : Port) : Statement (.probeStop p) := of_command rfl rfl (by decide)
theorem probeClear (p : Port) : Statement (.probeClear p) := of_command rfl rfl (by decide)
theorem probeAdopt (p : Port) (zone : Nat) : Statement (.probeAdopt p zone) := of_command rfl rfl (by decide)
theorem readProbe (p : Port) : Statement (.readProbe p) := of_command rfl rfl (by decide)
theorem eraseSector (p : Port) (sector : Nat) : Statement (.eraseSector p sector) :=
  of_command rfl rfl (by decide)
theorem storeZone (p : Port) (zone : Nat) : Statement (.storeZone p zone) := of_command rfl rfl (by decide)
theorem storeScene (p : Port) (scene : Nat) : Statement (.storeScene p scene) :=
  of_command rfl rfl (by decide)
theorem storeSystem (p : Port) : Statement (.storeSystem p) := of_command rfl rfl (by decide)
theorem lockZone (p : Port) (zone : Nat) : Statement (.lockZone p zone) := of_command rfl rfl (by decide)
theorem recallScene (p : Port) (scene : Nat) : Statement (.recallScene p scene) :=
  of_command rfl rfl (by decide)
theorem clearStoreFaults (p : Port) : Statement (.clearStoreFaults p) := of_command rfl rfl (by decide)
theorem overrideLocks (p : Port) : Statement (.overrideLocks p) := of_command rfl rfl (by decide)
theorem lowerOverride (p : Port) : Statement (.lowerOverride p) := of_command rfl rfl (by decide)
theorem readStore (p : Port) : Statement (.readStore p) := of_command rfl rfl (by decide)
theorem setSystem (p : Port) (values : SystemArg) : Statement (.setSystem p values) :=
  of_command rfl rfl (by decide)
theorem readSystem (p : Port) : Statement (.readSystem p) := of_command rfl rfl (by decide)
theorem noteSetup (p : Port) (kind : Nat) (enable : Choice) (level : Int) :
    Statement (.noteSetup p kind enable level) :=
  of_command rfl rfl (by decide)
theorem noteRead (p : Port) : Statement (.noteRead p) := of_command rfl rfl (by decide)
theorem noteClear (p : Port) (kinds : List Nat) : Statement (.noteClear p kinds) :=
  of_command rfl rfl (by decide)
theorem supervise (p : Port) (timeout : Int) : Statement (.supervise p timeout) :=
  of_command rfl rfl (by decide)
theorem superviseEnd (p : Port) : Statement (.superviseEnd p) := of_command rfl rfl (by decide)
theorem readStatus (p : Port) : Statement (.readStatus p) := of_command rfl rfl (by decide)
theorem restart (p : Port) : Statement (.restart p) := of_command rfl rfl (by decide)
theorem byteReceived (p : Port) (byte : Byte) (stopHigh : Bool) : Statement (.byteReceived p byte stopHigh) :=
  of_event rfl rfl

end Sys2Proof.Laws.Numbered
end

