-- ==== Sys2Proof/Laws/Wire.lean ====
section
/-! SUPPORT. The control links: the level their lines rest at (R190, R194). The amplifier control link: what the racks
read from its levels, and when the levels change (R141). -/

namespace Sys2Proof.Machine

/-! ### Control links (R190, R194) -/

/-- Whatever bytes a transmitter sends, its line ends at rest. -/
theorem serialLevels_getLast? (bytes : List Byte) : (serialLevels bytes).getLast? = some serialRest := by
  rcases bytes.eq_nil_or_concat with rfl | ⟨l, b, rfl⟩
  · rfl
  · simp [serialLevels, serialBits, serialRest, List.getLast?_cons, List.getLast?_append]

/-- The line of an idle transmitter is at rest, whatever the level of RESET_N (R194). -/
theorem State.txLevels_idle (s : State) (resetN : Bool) (p : Port) (h : (s.port p).link.tx = none) :
    s.txLevels resetN p = [serialRest] := by
  cases resetN <;> simp [State.txLevels, State.txBytes, h, serialLevels]

/-- A reset leaves every transmitter's line at rest (R194). -/
theorem afterReset_txLevels (pending : List Instr) (sectors : Vector Sector 41) (temp : TempUnit) (kind : ResetKind)
    (k : Nat) (amp : Vector Bool 32) (resetN : Bool) (p : Port) :
    (afterReset pending sectors temp kind k amp).txLevels resetN p = [serialRest] :=
  State.txLevels_idle _ _ _ (by cases p <;> rfl)

/-! ### The amplifier control link (R141) -/

/-- From a high AMP_CK, the racks read one bit in each period, and nothing at rest. -/
theorem ampRead_periods (bits : List Bool) (x : LineLevels) (h : x.clock = true) :
    ampRead (x :: (bits.flatMap ampPeriod ++ [ampRest])) = bits := by
  induction bits generalizing x with
  | nil => simp [ampRead, h]
  | cons b bits ih => simpa [ampPeriod, ampRead, h] using ih { clock := true, data := b } rfl

/-- The racks read the bits of the last transmission, each once and in zone order (R141). -/
theorem State.ampRead_ampLines (s : State) : ampRead s.ampLines = s.ampBits := ampRead_periods _ _ rfl

/-- The transmission of a frame mark shows the racks every enable as it stands when the link's work is taken (R141). -/
theorem ampRead_amplifierWork (s : State) :
    ampRead (amplifierWork s).ampLines = allZones.map fun z => (s.powerOf z).enable := by
  rw [State.ampRead_ampLines]
  simp only [State.ampBits, amplifierWork, allZones, Vector.toList_ofFn]
  exact List.ofFn_eq_map

/-- In a transmission AMP_DO changes only while AMP_CK is low (R141). -/
theorem ampPeriods_change_low (bits : List Bool) (x : LineLevels) :
    List.IsChain (fun a b : LineLevels => a.data ≠ b.data → b.clock = false) (x :: bits.flatMap ampPeriod) := by
  induction bits generalizing x with
  | nil => exact .singleton x
  | cons b bits ih => simpa [ampPeriod] using ih { clock := true, data := b }

/-- A transmission has 32 periods, and the lines are at rest before it and after it (R141). -/
theorem State.ampLines_rest (s : State) : s.ampLines.length = 66 ∧ s.ampLines.head? = some ampRest ∧
    s.ampLines.getLast? = some ampRest := by
  refine ⟨?_, rfl, ?_⟩
  · simp [State.ampLines, State.ampBits, ampPeriod, List.length_flatMap]
  · rw [State.ampLines, ← List.cons_append, List.getLast?_concat]

end Sys2Proof.Machine
end

