-- ==== Sys2Proof/Tests/Slice0.lean ====
section
/-! SUPPORT. Tests: the well-formedness checks refuse ill-formed commands; command frames written out from R189
and R190 decode; worked values of the manual; and, for each statement with hypotheses, a state and operands
that meet them, clause by clause. -/

open Sys2Proof Sys2Proof.Machine

namespace Sys2Proof.Tests

-- One theorem at a time: a hundred kernel evaluations at once take a thread with its own stack each.
set_option Elab.async false

/-! ### Well-formedness: an ill-formed command for each check -/

theorem test_illformed_byte :
    (Instr.readRecord .P 256 .first).wellFormed = false ∧ (Instr.eqSelect .P .all 256).wellFormed = false ∧
    (Instr.sensorAuto .C 256).wellFormed = false ∧ (Instr.sensorSetup .C 0 .first 256).wellFormed = false ∧
    (Instr.enableZone .C 256).wellFormed = false ∧ (Instr.disableZone .C 256).wellFormed = false ∧
    (Instr.probeAdopt .C 256).wellFormed = false ∧ (Instr.eraseSector .C 256).wellFormed = false ∧
    (Instr.storeZone .C 256).wellFormed = false ∧ (Instr.storeScene .P 256).wellFormed = false ∧
    (Instr.lockZone .C 256).wellFormed = false ∧ (Instr.recallScene .P 256).wellFormed = false ∧
    (Instr.routeRaise .P [] 256 1).wellFormed = false ∧ (Instr.routeRaise .P [] 0 256).wellFormed = false ∧
    (Instr.routeDrop .P [] 256).wellFormed = false ∧ (Instr.noteSetup .P 256 .first 0).wellFormed = false := by
  decide

theorem test_illformed_zone_operand :
    (Instr.gain .P (.zone 255) 0 .first).wellFormed = false ∧
    (Instr.eqSelect .P (.zone 255) 0).wellFormed = false ∧
    (Instr.coupling .C (.zone 255) none).wellFormed = false ∧
    (Instr.evacGain .V (.zone 255) 0).wellFormed = false ∧
    (Instr.timing .C (.zone 255) ⟨0, 0, 0, 0⟩).wellFormed = false := by decide

theorem test_illformed_quantity :
    (Instr.gain .P .all 2147483648 .first).wellFormed = false ∧
    (Instr.evacGain .V .all (-2147483649)).wellFormed = false ∧
    (Instr.sensorManual .C 0 2147483648).wellFormed = false ∧
    (Instr.supervise .V 2147483648).wellFormed = false ∧
    (Instr.noteSetup .P 1 .first 2147483648).wellFormed = false ∧
    (Instr.timing .C .all ⟨0, 0, 0, 2147483648⟩).wellFormed = false ∧
    (Instr.coupling .C .all (some ⟨0, 2147483648⟩)).wellFormed = false ∧
    (Instr.geometry .C .all ⟨0, 0, 0, Vector.replicate 8 2147483648, none⟩).wellFormed = false ∧
    (Instr.probeSetup .C ⟨0, 2147483648, 1, 0, 1, 1, 0, .first⟩).wellFormed = false ∧
    (Instr.setSystem .C ⟨0, 0, 1, 1, 1, 1, 5, 2147483648⟩).wellFormed = false := by decide

theorem test_illformed_optional :
    (Instr.allocate .C 0 (some ⟨65536, 1⟩)).wellFormed = false ∧
    (Instr.allocate .C 0 (some ⟨0, 65536⟩)).wellFormed = false ∧
    (Instr.geometry .C .all ⟨0, 0, 0, Vector.replicate 8 0, some 256⟩).wellFormed = false ∧
    (Instr.coupling .C .all (some ⟨256, 0⟩)).wellFormed = false := by decide

theorem test_illformed_list :
    (Instr.readTargets .P (List.replicate 33 0)).wellFormed = false ∧
    (Instr.readChain .P [256]).wellFormed = false ∧ (Instr.readRoutes .P [256]).wellFormed = false ∧
    (Instr.readPower .P [256]).wellFormed = false ∧ (Instr.clearClip .P [256]).wellFormed = false ∧
    (Instr.noteClear .P [256]).wellFormed = false ∧
    (Instr.noteClear .P (List.replicate 256 1)).wellFormed = false ∧
    (Instr.eqBank .C .all 0 []).wellFormed = false ∧
    (Instr.frameMark [.slew, .slew]).wellFormed = false ∧
    (Instr.unknownCommand .P 0x32#8).wellFormed = false := by decide +kernel

/-! ### Command frames, written out from R189 and R190 -/

theorem test_frame_record : decodeCommand .P 0x01#8 [31#8, 1#8] = .command (.readRecord .P 31 .second) := by decide
theorem test_frame_gain :
    decodeCommand .P 0x02#8 [5#8, 0xFF#8, 0xFF#8, 0xFF#8, 0xEC#8, 0#8] = .command (.gain .P (.zone 5) (-20) .first)
    := by decide
theorem test_frame_eq_select : decodeCommand .C 0x03#8 [0xFF#8, 3#8] = .command (.eqSelect .C .all 3) := by decide
theorem test_frame_coupling :
    decodeCommand .C 0x06#8 [1#8, 1#8, 7#8, 0#8, 0#8, 0xFA#8, 0#8] =
      .command (.coupling .C (.zone 1) (some ⟨7, 64000⟩)) := by decide
theorem test_frame_allocate :
    decodeCommand .C 0x0B#8 [2#8, 1#8, 1#8, 0xFF#8, 0#8, 1#8] = .command (.allocate .C 2 (some ⟨511, 1⟩)) := by
  decide
theorem test_frame_sensor :
    decodeCommand .C 0x0D#8 [7#8, 0#8, 0x48#8] = .command (.sensorSetup .C 7 .first 0x48) := by decide
theorem test_frame_raise :
    decodeCommand .V 0x13#8 [2#8, 0#8, 31#8, 6#8, 7#8] = .command (.routeRaise .V [0, 31] 6 7) := by decide
theorem test_frame_enable : decodeCommand .C 0x17#8 [9#8] = .command (.enableZone .C 9) := by decide
theorem test_frame_probe_run : decodeCommand .C 0x1B#8 [1#8, 1#8] = .command (.probeRun .C (some .second)) := by decide
theorem test_frame_recall : decodeCommand .V 0x25#8 [6#8] = .command (.recallScene .V 6) := by decide
theorem test_frame_note_setup :
    decodeCommand .P 0x2C#8 [16#8, 1#8, 0#8, 0#8, 0#8, 7#8] = .command (.noteSetup .P 16 .second 7) := by decide
theorem test_frame_supervise :
    decodeCommand .V 0x2F#8 [0#8, 0#8, 7#8, 0xD0#8] = .command (.supervise .V 2000) := by decide
theorem test_frame_restart : decodeCommand .C 0x32#8 [] = .command (.restart .C) := by decide
theorem test_frame_unknown :
    decodeCommand .C 0x33#8 [] = .unknown ∧ decodeCommand .C 0x81#8 [] = .unknown ∧
    decodeCommand .C 0x32#8 [0#8] = .malformed ∧ decodeCommand .C 0x0A#8 [33#8] = .malformed := by decide

/-- CRC-16 with polynomial 0x1021 from 0xFFFF, not reflected and not inverted, of the nine digits is 0x29B1: the
published check value of that CRC. -/
theorem test_crc16 :
    crc16 [0x31#8, 0x32#8, 0x33#8, 0x34#8, 0x35#8, 0x36#8, 0x37#8, 0x38#8, 0x39#8] = 0x29B1#16 := by
  decide +kernel

/-! ### Worked values of the manual -/

/-- The table of R66. -/
theorem test_interpolate :
    (interpolate 1000#24 1033#24 9).toInt = 1005 ∧ (interpolate 1000#24 997#24 32).toInt = 999 ∧
    (interpolate 1000#24 1003#24 32).toInt = 1002 ∧
    (interpolate (BitVec.ofInt 24 (-8388608)) 8388607#24 63).toInt = 8126463 ∧
    (interpolate 250#24 (BitVec.ofInt 24 (-250)) 0).toInt = 250 := by decide +kernel

/-- The section of the worked case of section 6.8. -/
def workedSection : Section :=
  { bypass := false, b0 := 262144#24, b1 := 524288#24, b2 := 262144#24, a1 := BitVec.ofInt 24 (-524288),
    a2 := 131072#24 }

/-- The first three outputs of section 6.8. -/
theorem test_section :
    let one := sectionStep workedSection SectionState.zero 1000000#24
    let two := sectionStep workedSection one.1 1000000#24
    let three := sectionStep workedSection two.1 1000000#24
    one.2 = (250000#24, false) ∧ two.2 = (875000#24, false) ∧ three.2 = (1406250#24, false) := by decide +kernel

/-- Samples 3 and 4 of section 6.8 with a constant input of 8,000,000. -/
theorem test_section_saturates :
    let one := sectionStep workedSection SectionState.zero 8000000#24
    let two := sectionStep workedSection one.1 8000000#24
    let three := sectionStep workedSection two.1 8000000#24
    let four := sectionStep workedSection three.1 8000000#24
    two.2 = (7000000#24, false) ∧ three.2 = (8388607#24, true) ∧ four.2 = (8388607#24, true) := by decide +kernel

/-- The ramp of section 6.10. -/
theorem test_ramp :
    let g : GainState := { applied := 0, target := 0, rampFrom := 4194304, rampTo := 2102132, clip := 0 }
    g.factorAt 1 = 4150717 ∧ g.factorAt 24 = 3148218 ∧ g.factorAt 48 = 2102132 ∧
    gainProduct 1000000#24 4150717 = 989608 ∧ gainProduct 1000000#24 3148218 = 750594 ∧
    gainProduct 1000000#24 2102132 = 501187 := by decide +kernel

/-- Section 9.12: the medians, and c_z at T_z 336; R42's example and R43's greatest value. -/
theorem test_path :
    median [12040, 11980, 12010, 12020, 12000] = 12010 ∧ median [904560, 904620, 904500, 904590] = 904560 ∧
    soundSpeed 336 = 344026 ∧ soundSpeed 320 = 343420 ∧ pathDelay 99955 344026 = 892554 ∧
    pathDelay 400000 307060 = 4001824 := by decide +kernel

/-- R77: an answered transaction takes 29 bit periods, of which the part drives the start, the address, one acknowledge,
the no-acknowledge and the stop. -/
theorem test_bus_phases :
    ((phasesOf (.value 0x0150#16)).flatMap fun x => x.levels 0x48 0x0150#16).length = 29 ∧
    partDrives 0x48 (.value 0x0150#16) =
      [(.start, [false]), (.address, [true, false, false, true, false, false, false, true]), (.acknowledge, [false]),
        (.noAcknowledge, [true]), (.stop, [true])] := by decide

/-! ### States for the witnesses -/

/-- After start-up with a store never written: every zone DISABLED. -/
def ready : State := { State.reset with store := { State.reset.store with state := .ready } }

/-- One page for a zone. -/
def onePage : Option Allocation := some { base := 0, count := 1 }

/-- A zone enabled on page 0 in a power state, with a capacity to match, at rest on a source. -/
def enabledZone (p : PowerState) (l : List RouteEntry) (f : Fade) (x : ZoneState) : ZoneState :=
  let r := { x.entry.active with enabled := true, allocation := onePage }
  { x with
    entry := { x.entry with active := r, shadow := r }, target := { x.target with cap := 65280, tgt := 64 },
    power := { state := p, framesInState := 0, fresh := false }, route := { x.route with entries := l, fade := f } }

/-- Zone 0 in a power state with a route set and a fade. -/
def zone0 (p : PowerState) (l : List RouteEntry) (f : Fade) : State := ready.updZone 0 (enabledZone p l f)

/-- Zone 0 LIVE at rest on silence. -/
def live : State := zone0 .live [] (.atRest none)

/-- An entry of a port for a source at a level. -/
def entry (p : Port) (src : Source) (level : Nat) : RouteEntry := { port := p, source := src, level := level }

/-- A GAIN entry of a port for all zones. -/
def gainEntry (p : Port) : QueueEntry := { port := p, zone := .all, change := .gain 24 true, bypass := 0 }

/-- A state with an entry in hand and a queue. -/
def queued (hand : Option InHand) (l : List QueueEntry) : State := { ready with queue := { entries := l, hand := hand } }

/-- A hand that holds a change at its completion frame mark. -/
def completing (z : ZoneTarget) (c : Change) : InHand :=
  { entry := { port := .C, zone := z, change := c, bypass := 0 }, marks := 0, fresh := false }

/-- A state with a sector changed. -/
def sectored (n : SectorNo) (x : Sector) (s : State) : State := s.updSector n fun _ => x

/-- A VALID sector with contents under their check value, and a lock flag. -/
def validSector (c : Contents) (lock : Bool) : Sector :=
  { state := .valid, check := c.checkValue, lock := lock, eraseCount := 65535, mark := false, contents := c }

/-- Zone 0's sector VALID and locked. -/
def locked : State := sectored 0 (validSector (.zone ZoneRecord.default) true) ready

/-- What a step answers, where it answers. -/
def nextOf (o : Answer) : State :=
  match o with
  | .next t => t
  | .fault _ | .refused _ => State.reset

/-- Nothing is due: the guards of the events of a frame mark, together. -/
def quiet (s : State) : Bool :=
  (allSlots.all fun n => !staleDue s n) && !supervisionDue s && !pollDue s &&
    (allZones.all fun z => !wakeDue z s && !drainDue z s) && !changeDue s && !windowDue s && !periodDue s &&
    decide (s.probe.state.run ≠ some (.toOpen 0))

/-- Nothing is due where every guard says so. -/
theorem nothingDue_of (s : State) (h : quiet s = true) : NothingDue s := by
  simp only [quiet, Bool.and_eq_true, List.all_eq_true, Bool.not_eq_true', decide_eq_true_eq] at h
  obtain ⟨⟨⟨⟨⟨⟨⟨stale, h1⟩, h2⟩, times⟩, h4⟩, h5⟩, h6⟩, h7⟩ := h
  exact
    { stale := fun n => stale n (List.mem_finRange n), supervision := h1, poll := h2,
      wake := fun z => (times z (List.mem_finRange z)).1, drain := fun z => (times z (List.mem_finRange z)).2,
      change := h4, window := h5, period := h6, opening := h7 }

/-- No fade or crossfade ends where every guard says so. -/
theorem nothingEnding_of (s : State)
    (h : (allZones.all fun z => !crossfadeDue z s && !(s.zone z).route.fade.done) = true) : NothingEnding s :=
  fun z => by have := List.all_eq_true.mp h z (List.mem_finRange z); simp_all

theorem live_nothing_due : NothingDue live := nothingDue_of live (by decide +kernel)

theorem live_nothing_ending : NothingEnding live := nothingEnding_of live (by decide +kernel)

/-- Every allocation lies in memory where every zone's does. -/
theorem allocationInv_of (s : State)
    (h : (allZones.all fun z => (s.active z).allocated && (s.shadow z).allocated) = true) : AllocationInv s :=
  fun z => by have := List.all_eq_true.mp h z (List.mem_finRange z); simp_all

/-- The estimate sources are in line where every zone's is. -/
theorem sourceInv_of (s : State)
    (h : ∀ z : Zone,
      let led := (s.active z).coupling.any fun k => (s.active k.leader).enabled
      ((s.zone z).target.leaderAbsent = true ↔ (s.active z).coupling ≠ none ∧ ¬ led = true) ∧
      ((s.zone z).target.source = .leader ↔ led = true) ∧
      (¬ led = true → ((s.zone z).target.source = .reference ↔ ∀ n : Fin 8, (s.active z).weights[n] = 0))) :
    SourceInv s := fun z => by
  have := h z
  simp only [Option.any_eq_true] at this
  exact this

theorem live_allocation : AllocationInv live := allocationInv_of live (by decide +kernel)

/-! ### Witnesses: states and operands that meet the hypotheses of the statements -/

theorem witness_StepTakesFront :
    ({ live with pending := [.frameMark []] } : State).pending = .frameMark [] :: [] ∧ live.pending = [] :=
  ⟨rfl, rfl⟩

theorem witness_FramesHold : LinkIdle live (.frameMark []) ∧ (∃ t, exec (.frameMark []) live = .next t) ∧
    LinkIdle live (.readStatus .P) ∧ ∃ t, exec (.readStatus .P) live = .next t := by
  have idle : ∀ p, (live.port p).link.tx = none := fun p => by cases p <;> rfl
  exact ⟨fun p _ => idle p, ⟨_, rfl⟩, fun p _ => idle p, ⟨_, rfl⟩⟩

/-- Zone 0 LIVE with an allocation that ends at page 512. -/
def beyond : State := live.updZone 0 fun x =>
  { x with entry := { x.entry with active := { x.entry.active with allocation := some { base := 512, count := 1 } } } }

theorem witness_FaultsOnlyOutsideMemory : AllocationInv live ∧ NothingDue beyond ∧ NothingEnding beyond ∧
    (beyond.powerOf 0).inService = true ∧ (beyond.active 0).allocation = some { base := 512, count := 1 } ∧
    512 < 512 + 1 :=
  ⟨live_allocation, nothingDue_of beyond (by decide +kernel), nothingEnding_of beyond (by decide +kernel),
    by decide +kernel⟩

theorem witness_DecodeEncoded :
    (Instr.gain .P (.zone 254) (-2147483648) .neither).wellFormed = true ∧
    commandPort (.gain .P (.zone 254) (-2147483648) .neither) = some .P ∧
    commandCode (.gain .P (.zone 254) (-2147483648) .neither) = some 0x02 := by decide

/-- Zone 0 LIVE, with a FRAME_MARK at the front of the queue. -/
def marking : State := { live with pending := [.frameMark []] }

/-- What holds of a zone changed from its reset values, and of a zone as the reset leaves it, holds of every zone. -/
theorem zones_of {P : ZoneState → Prop} {f : ZoneState → ZoneState} (h : P (f ZoneState.initial))
    (k : P ZoneState.initial) (z : Zone) : P ((ready.updZone 0 f).zone z) := by
  have i : ∀ y : Zone, ready.zone y = ZoneState.initial := fun y => by simp [ready, State.zone, State.reset]
  by_cases hz : z = 0
  · subst hz
    have : (ready.updZone 0 f).zone 0 = f (ready.zone 0) := by simp [State.zone, State.updZone]
    rw [this, i]
    exact h
  · have : (ready.updZone 0 f).zone z = ready.zone z := by
      have : ¬ (0 : Nat) = z.val := fun e => hz (Fin.ext e.symm)
      simp [State.zone, State.updZone, this]
    rw [this, i]
    exact k

/-- The same of `marking`. -/
theorem marking_zones {P : ZoneState → Prop} (h : P (enabledZone .live [] (.atRest none) ZoneState.initial))
    (k : P ZoneState.initial) (z : Zone) : P (marking.zone z) := zones_of h k z

theorem marking_steps : ∃ t, step marking = .next t := ⟨_, rfl⟩

theorem witness_PagesKept : MemoryInv marking ∧ AllocationInv marking ∧ MapInv marking ∧ ∃ t, step marking = .next t := by
  refine ⟨⟨.nil, fun _ h => (nomatch h)⟩, live_allocation, ⟨fun z => ?_, fun y z hyz a b ha hb => ?_⟩, marking_steps⟩
  · exact marking_zones (P := fun x => x.entry.active.allocation = x.entry.shadow.allocation) rfl rfl z
  · have one : ∀ y : Zone, (marking.active y).allocation.isSome = true → y = 0 := by decide +kernel
    exact absurd ((one y (by rw [ha]; rfl)).trans (one z (by rw [hb]; rfl)).symm) hyz

theorem witness_TableKept : TableInv marking ∧ ∃ t, step marking = .next t := by
  refine ⟨fun z => ?_, marking_steps⟩
  refine marking_zones (P := fun x => x.entry.groups.Nodup ∧ (∀ g ∈ x.entry.groups, g ∈ queuedGroups) ∧
    ∀ g : FieldGroup, g ∉ x.entry.groups → g.agrees x.entry.active x.entry.shadow) ?_ ?_ z
  all_goals
    refine ⟨.nil, fun g h => (nomatch h), fun g _ => ?_⟩
    cases g <;> simp [FieldGroup.agrees, enabledZone, ZoneState.initial]

theorem witness_DelaysKept : DelayInv marking ∧ ∃ t, step marking = .next t := by
  refine ⟨⟨by unfold ServiceInv; decide +kernel, ?_, fun h => absurd h (by decide +kernel)⟩, marking_steps⟩
  decide +kernel

theorem witness_RangesKept : RangeInv marking ∧ NoteInv marking ∧ CounterInv marking ∧ ∃ t, step marking = .next t := by
  refine ⟨⟨?_, fun e h => (nomatch h), fun h e => (nomatch e), ?_, fun o e => (nomatch e), ?_⟩, fun p => ?_,
    { zones := fun z => ?_, sensors := ?_, poll := fun n h => (nomatch h), probe := ?_,
      run := ⟨fun e d w b h => (nomatch h), Nat.zero_le _⟩, store := ?_,
      supervision := ⟨by decide +kernel, fun n h => (nomatch h)⟩, buffers := fun p => by cases p <;> decide +kernel },
    marking_steps⟩
  case refine_4 => cases p <;> decide +kernel
  case refine_5 =>
    refine ⟨?_, ?_, fun inc p k held h => ?_⟩
    · exact marking_zones (P := fun x => x.power.framesInState ≤ 65535000) (by decide) (by decide) z
    · exact marking_zones (P := fun x => x.gain.clip ≤ 65535) (by decide) (by decide) z
    · rw [marking_zones (P := fun x => x.eq.mode = .steady) rfl rfl z] at h
      cases h
  case refine_7 => constructor <;> simp only [ProbeSettings.within] <;> decide +kernel
  all_goals decide +kernel

theorem witness_QueueKept : QueueInv marking ∧ ∃ t, step marking = .next t :=
  ⟨⟨by decide +kernel, by decide +kernel, fun e h => (nomatch h), .nil⟩, marking_steps⟩

theorem witness_CouplingsKept :
    CouplingInv marking ∧ (TableInv marking ∧ SourceInv marking) ∧ ∃ t, step marking = .next t := by
  have free : ∀ z : Zone, (marking.shadow z).coupling = none :=
    marking_zones (P := fun x => x.entry.shadow.coupling = none) rfl rfl
  exact ⟨⟨fun z k h => (by rw [free z] at h; cases h), fun e h => (nomatch h), fun h e => (nomatch e)⟩,
    ⟨witness_TableKept.1, sourceInv_of _ (by decide +kernel)⟩, marking_steps⟩

theorem witness_RoutesKept : RouteInv marking ∧ ∃ t, step marking = .next t := by
  refine ⟨⟨fun z => ?_, fun h => ?_⟩, marking_steps⟩
  · have e : (marking.zone z).route.entries = [] := marking_zones (P := fun x => x.route.entries = []) rfl rfl z
    have f : ((marking.zone z).power.state).fits [] = true :=
      marking_zones (P := fun x => x.power.state.fits [] = true) rfl rfl z
    rw [e]
    exact ⟨Nat.zero_le _, fun e h => (nomatch h), .nil, f⟩
  · exact absurd h (by decide +kernel)

theorem witness_FadesKept : FadeInv marking ∧ ∃ t, step marking = .next t := by
  refine ⟨fun z => ⟨?_, fun out inc p n up h => ?_, fun d n _ => ?_, fun h => absurd h (by decide +kernel)⟩, marking_steps⟩
  · exact marking_zones (P := fun x => x.route.fade.head = x.route.winner.map (·.source)) rfl rfl z
  · have := marking_zones (P := fun x => x.route.fade = .atRest none) rfl rfl z
    rw [this] at h; cases h
  · exact marking_zones (P := fun x => x.route.entries = []) rfl rfl z

theorem witness_SlotsKept : EqInv marking ∧ ∃ t, step marking = .next t := by
  have m : ∀ z, (marking.zone z).eq.mode = .steady := marking_zones (P := fun x => x.eq.mode = .steady) rfl rfl
  refine ⟨⟨fun z => ?_, .nil, fun y z k h => ?_, fun z _ => m z, fun h => absurd rfl h,
    fun h => absurd h (by decide +kernel)⟩, marking_steps⟩
  · rw [m z]
    exact ⟨fun h => (nomatch h), fun h => (nomatch h)⟩
  · rw [EqState.slot, m y] at h; cases h

theorem witness_SoundSpeedKept : (∃ t, ((computeOne .record 0 live).zone 0).target.tz = some t) ∧
    EstimateInv marking ∧ ∃ t, step marking = .next t := by
  refine ⟨⟨320, by decide +kernel⟩, ⟨fun n => ⟨?_, fun v h => ?_⟩, by decide +kernel, fun z => ⟨?_, fun t h => ?_⟩⟩,
    marking_steps⟩
  · have h : ∀ n : Fin 8, (marking.sensor n).lastAccepted.all (inRange (-640) 960) = true := by decide +kernel
    exact h n
  · have k : ∀ n : Fin 8, (marking.sensor n).status = .off := by decide +kernel
    rw [k n] at h; cases h
  · exact marking_zones (P := fun x => inRange 307060 367660 x.target.c = true) (by decide) (by decide) z
  · have k : (marking.zone z).target.tz = none := marking_zones (P := fun x => x.target.tz = none) rfl rfl z
    rw [k] at h; cases h

/-- A store with a marked sector, an erased one, a damaged one, a VALID one and a system sector that is not VALID. -/
def stored : State :=
  sectored 0 { Sector.factory with mark := true } (sectored 2 { Sector.factory with contents := .damaged, check := 1#32 }
    (sectored 3 (validSector (.zone ZoneRecord.default) false) live))

/-- System settings below and above their ranges, stored. -/
def lowSettings : Settings := { Settings.default with tRef := 3000, wakeMax := 0 }

/-- A store whose system sector is VALID. -/
def storedSystem : State := sectored systemSector (validSector (.system lowSettings) false) live

theorem witness_ColdResetSets : (stored.sector 0).mark = true ∧
    ((stored.sector 1).mark = false ∧ (stored.sector 1).contents = .erased) ∧
    ((stored.sector 2).contents ≠ .erased ∧ (stored.sector 2).contents.checkValue ≠ (stored.sector 2).check) ∧
    (stored.sector systemSector).state ≠ .valid := by decide +kernel

theorem witness_ColdResetSets_valid : stored.sector 3 = validSector (.zone ZoneRecord.default) false ∧
    (Contents.zone ZoneRecord.default).sound 3 ∧ ¬ Contents.damaged.sound 2 ∧
    (storedSystem.sector systemSector).contents = .system lowSettings ∧
    ((nextOf (exec .coldReset storedSystem)).sector systemSector).state = .valid := by
  have h : stored.sector 3 = validSector (.zone ZoneRecord.default) false := by
    simp [stored, sectored, State.sector, State.updSector]
  have k : ((nextOf (exec .coldReset storedSystem)).sector systemSector).state =
      scannedState systemSector (validSector (.system lowSettings) false) := by
    simp [nextOf, exec, execColdReset, afterReset, StoreUnit.afterReset, scan, State.sector, storedSystem, sectored,
      State.updSector]
  refine ⟨h, ⟨by decide, fun a h => (nomatch h)⟩, id, by simp [storedSystem, sectored, State.sector, State.updSector,
    validSector], k.trans ?_⟩
  simp only [scannedState, validSector]
  rfl

/-- A zone record that is enabled on page 0 and follows a zone, with a slew limit below its range. -/
def storedRecord (leader : Zone) : ZoneRecord :=
  { ZoneRecord.default with enabled := true, allocation := onePage, slew := 0, coupling := some ⟨leader, 0⟩ }

/-- A scene of one item for every zone. -/
def scene : Scene := Vector.replicate 32 { gain := 24, mute := true, select := 3 }

/-- Start-up with the records of zone 1, which follows zone 2, and of zone 3, which asks for zone 1's page and follows
itself, stored, and a corrupt sector; and with scene 0 stored. -/
def booting : State :=
  sectored 1 (validSector (.zone (storedRecord 2)) false) (sectored 3 (validSector (.zone (storedRecord 3)) false)
    (sectored 4 { Sector.factory with state := .corrupt, contents := .damaged } State.reset))

def bootingScene : State := sectored 32 (validSector (.scene scene) false) State.reset

/-- A slot enabled at start-up. -/
def bootingSlot : State :=
  { State.reset with
    settings := { State.reset.settings with sensors := State.reset.settings.sensors.set 5 { enabled := true, address := 0x4D } },
    temp := { State.reset.temp with sensors := State.reset.temp.sensors.set 5 (SensorRecord.initial true) } }

theorem witness_StartupLoads :
    let t := nextOf (exec .startupDone booting)
    (booting.starting = true ∧ bootingScene.starting = true) ∧
    ((t.active 1).enabled = true ∧ (t.active 1).allocation = some { base := 0, count := 1 } ∧
      (t.active 1).coupling = some ⟨2, 0⟩) ∧
    ((booting.sector (zoneSector 1)).state = .valid ∧
      (booting.sector (zoneSector 1)).contents = .zone (storedRecord 2) ∧
      (booting.sector (zoneSector 3)).contents = .zone (storedRecord 3)) ∧
    ((t.zone 3).entry.status.allocDropped = true ∧ (t.zone 3).entry.status.couplingDropped = true) ∧
    ((booting.sector (zoneSector 31)).state = .blank ∧ (booting.sector (zoneSector 4)).state = .corrupt ∧
      (booting.sector (sceneSector 0)).state ≠ .valid) ∧
    ((bootingScene.sector (sceneSector 0)).state = .valid ∧
      (bootingScene.sector (sceneSector 0)).contents = .scene scene) ∧
    bootingSlot.starting = true ∧
    (nextOf (exec .startupDone bootingSlot)).temp.round.map (fun x => (x.slot, x.address)) = some (5, 0x4D) := by
  decide +kernel

/-- Zone 0 LIVE under an entry of port V. -/
def evacuated : State := zone0 .live [entry .V 0 7] (.atRest (some 0))

/-- Port V's link sending the answer to its RESTART. -/
def restarting : State :=
  ready.updLink .V fun l => { l with tx := some { cmd := 0xB2#8, result := .ok, payload := [], restarts := true } }

/-- The same with slot 7 enabled by hand and slot 6 in a manual mode, which the settings loaded do not know. -/
def restartingSlots : State :=
  { restarting with
    settings :=
      { restarting.settings with sensors := restarting.settings.sensors.set 7 { enabled := true, address := 0x4F } } }

/-- The same with slot 6 in a manual mode and enabled at another address than the stored settings have. -/
def restartingManual : State :=
  let at6 := fun (x : Settings) (a : Nat) => { x with sensors := x.sensors.set 6 { enabled := true, address := a } }
  let s := sectored systemSector (validSector (.system (at6 restarting.settings 0x4E)) false) restarting
  { s with
    settings := at6 s.settings 0x48,
    temp := { s.temp with sensors := s.temp.sensors.set 6 { s.temp.sensors[6] with status := .manual 320 } } }

theorem witness_RestartResets_manual :
    let t := nextOf (exec (.responseSent .V) restartingManual)
    (restartingManual.port .V).link.tx = some { cmd := 0xB2#8, result := .ok, payload := [], restarts := true } ∧
    (restartingManual.sensor 6).status = .manual 320 ∧ restartingManual.sensorFields 6 ≠ t.sensorFields 6 ∧
    (t.sensorFields 6).enabled = true := by decide +kernel

theorem witness_RestartResets :
    (Takes ready .C ∧ Port.C ≠ .P ∧ ∀ z, ∀ e ∈ (ready.zone z).route.entries, e.port ≠ .V) ∧
    (Takes evacuated .C ∧ entry .V 0 7 ∈ (evacuated.zone 0).route.entries ∧ (entry .V 0 7).port = .V) ∧
    (restarting.port .V).link.tx = some { cmd := 0xB2#8, result := .ok, payload := [], restarts := true } ∧
    restarting.sensorFields 7 = (nextOf (exec (.responseSent .V) restarting)).sensorFields 7 ∧
    (restartingSlots.sensorFields 7 ≠ (nextOf (exec (.responseSent .V) restartingSlots)).sensorFields 7 ∧
      ((nextOf (exec (.responseSent .V) restartingSlots)).sensorFields 7).enabled = false) := by decide +kernel

/-- Zone 0 LIVE, dirty with GEOMETRY and SELECT. -/
def dirty : State :=
  ready.updZone 0 fun x =>
    let x := enabledZone .live [] (.atRest none) x
    { x with
      entry :=
        { x.entry with
          shadow := { x.entry.shadow with pathLength := 1000, eqSelect := 1 }, groups := [.geometry, .select] } }

/-- The same with zone 1 its follower, DISABLED and dirty with SELECT. -/
def dirtyLed : State :=
  dirty.updEntry 1 fun e =>
    { e with
      active := { e.active with coupling := some ⟨0, 64⟩ },
      shadow := { e.shadow with coupling := some ⟨0, 64⟩, eqSelect := 1 }, groups := [.select] }

/-- Zones LIVE and dirty with SELECT: zones 0 to 3 hold the four slots, zone 4 waits, and zone 5 is STEADY. -/
def dirtySlots : State :=
  let s := [0, 1, 2, 3, 4, 5].foldl
    (fun (s : State) (z : Zone) =>
      (s.updZone z (enabledZone .live [] (.atRest none))).updEntry z fun e =>
        { e with shadow := { e.shadow with eqSelect := 1 }, groups := [.select] }) ready
  let s := [0, 1, 2, 3].foldl
    (fun (s : State) (k : Fin 4) =>
      s.updEq (Fin.ofNat 32 k.val) fun e => { e with mode := .xfade (Cascade.setUp ZoneRecord.default) 5 k false }) s
  { s.updEq 4 fun e => { e with mode := .wait } with eqWait := [4] }

theorem witness_FrameMarkTransfers : changeDue live = false ∧ NothingDue dirty ∧ TableInv dirty ∧ CouplingInv dirty ∧
    EqInv dirty ∧ (FieldGroup.geometry ∈ (dirty.zone 0).entry.groups ∧ (dirty.zone 31).entry.groups = []) ∧
    (FieldGroup.select ∈ (dirty.zone 0).entry.groups ∧ (dirty.active 0).eqSelect ≠ (dirty.shadow 0).eqSelect ∧
      (dirty.powerOf 0).heard = true ∧ (dirty.zone 0).eq.mode = .steady) := by
  refine ⟨by decide +kernel, nothingDue_of _ (by decide +kernel), fun z => ?_, ⟨fun z k h => ?_, fun e h => (nomatch h),
    fun h e => (nomatch e)⟩, by unfold EqInv; decide +kernel, by decide +kernel⟩
  · refine zones_of (P := fun x => x.entry.groups.Nodup ∧ (∀ g ∈ x.entry.groups, g ∈ queuedGroups) ∧
      ∀ g : FieldGroup, g ∉ x.entry.groups → g.agrees x.entry.active x.entry.shadow) ?_ ?_ z
    all_goals
      refine ⟨by decide, by decide, fun g h => ?_⟩
      cases g <;> simp_all [FieldGroup.agrees, enabledZone, ZoneState.initial]
  · have : (dirty.shadow z).coupling = none := zones_of (P := fun x => x.entry.shadow.coupling = none) rfl rfl z
    rw [this] at h
    cases h

theorem witness_FrameMarkTransfers_led : NothingDue dirtyLed ∧
    ((nextOf (exec (.frameMark []) dirtyLed)).active 1).coupling = some ⟨0, 64⟩ ∧
    FieldGroup.geometry ∈ (dirtyLed.zone 0).entry.groups ∧
    ((nextOf (exec (.frameMark []) dirtyLed)).zone 0).target.raw ≠ (dirtyLed.zone 0).target.raw ∧
    (FieldGroup.select ∈ (dirtyLed.zone 1).entry.groups ∧ (dirtyLed.powerOf 1).heard = false) :=
  ⟨nothingDue_of _ (by decide +kernel), by decide +kernel⟩

theorem witness_FrameMarkTransfers_slots : NothingDue dirtySlots ∧ EqInv dirtySlots ∧
    (∀ z : Zone, z.val < 6 → FieldGroup.select ∈ (dirtySlots.zone z).entry.groups ∧
      (dirtySlots.active z).eqSelect ≠ (dirtySlots.shadow z).eqSelect ∧ (dirtySlots.powerOf z).heard = true) ∧
    (dirtySlots.zone 3).eq.slot = some 3 ∧ (dirtySlots.zone 4).eq.mode = .wait ∧
    (dirtySlots.zone 5).eq.mode = .steady ∧
    ((nextOf (exec (.frameMark []) dirtySlots)).eqWait = [4] ++ [5]) :=
  ⟨nothingDue_of _ (by decide +kernel), by unfold EqInv; decide +kernel, by decide +kernel⟩

theorem witness_FrameMarkSlews : NothingDue live ∧
    (live.powerOf 0).heard = true ∧ (live.zone 0).line.dCur ≤ (live.zone 0).target.tgt ∧
    live.powerOf 31 = .disabled ∧ PowerState.live.heard = true ∧ slewing .live 0 1 = true ∧
    doneBefore [] .transfer .slew = true ∧ doneBefore [.slew, .transfer] .transfer .slew = false :=
  ⟨live_nothing_due, by decide +kernel⟩

/-- R141: at rest AMP_CK is high and AMP_DO low; zone 0, LIVE, is on, and zone 1, DISABLED, off. -/
theorem test_amp_lines :
    let lines := (nextOf (exec (.frameMark []) live)).ampLines.map fun x => (x.clock, x.data)
    lines.take 5 = [(true, false), (false, true), (true, true), (false, false), (true, false)] ∧
    lines.getLast? = some (true, false) := by decide +kernel

/-- R190, R194: P_TX rests high; a response goes out from rest with SYNC, 0xA5, least significant bit first, and comes
back to rest; RESET_N low holds the line high, and a reset stops the response after the byte in flight. -/
theorem test_tx_levels :
    let sending := nextOf (exec (.lowerOverride .C) ready)
    let sync := [true, false, true, false, true, false, false, true, false, true, true]
    ready.txLevels true .P = [true] ∧ (sending.txLevels true .C).take 11 = sync ∧
    (sending.txLevels true .C).getLast? = some true ∧ sending.txLevels false .C = [true] ∧
    sending.txCutLevels 0 .C = sync ∧ (nextOf (exec .coldReset sending)).txLevels true .C = [true] := by
  decide +kernel

/-- A zone that is LIVE with a D_cur above its D_tgt, and a PARKED one. -/
def slewingDown : State := live.updLine 0 fun l => { l with dCur := 65280 }

def parked : State := zone0 .parked [] (.atRest none)

theorem witness_FrameMarkSlews_down : NothingDue slewingDown ∧ NothingDue parked ∧
    (slewingDown.powerOf 0).heard = true ∧ (slewingDown.zone 0).target.tgt ≤ (slewingDown.zone 0).line.dCur ∧
    (parked.powerOf 0).heard = false ∧ (parked.powerOf 0).inService = true :=
  ⟨nothingDue_of _ (by decide +kernel), nothingDue_of _ (by decide +kernel), by decide +kernel⟩

/-- Zones 0 and 31 in WAKE_WAIT at levels 1 and 7, with an allowance of one. -/
def waiting : State :=
  let s := (zone0 .wakeWait [entry .P 1 1] (.atRest (some 1))).updZone 31
    (enabledZone .wakeWait [entry .V 2 7] (.atRest (some 2)))
  { s with settings := { s.settings with wakeMax := 1 } }

theorem witness_FrameMarkGrants : NothingDue waiting ∧ waiting.powerOf 0 = .wakeWait ∧ waiting.powerOf 31 = .wakeWait ∧
    waiting.settings.wakeMax - (waiting.history.toList.take (waiting.settings.wakeWindow - 1)).sum = 1 ∧
    waiting.winnerLevel 0 = 1 ∧ waiting.winnerLevel 31 = 7 :=
  ⟨nothingDue_of _ (by decide +kernel), by decide +kernel⟩

/-- Zone 0 LIVE at a winner of level 6. -/
def alarmed : State := zone0 .live [entry .V 0 6] (.atRest (some 0))

theorem witness_FrameMarkNames : NothingDue alarmed ∧ (alarmed.powerOf 0).inService = true ∧
    alarmed.winnerLevel 0 = 6 ∧ alarmed.powerOf 1 = .disabled ∧
    ((nextOf (exec (.frameMark []) alarmed)).powerOf 0).heard = true ∧
    ((nextOf (exec (.frameMark []) alarmed)).powerOf 1).heard = false :=
  ⟨nothingDue_of _ (by decide +kernel), by decide +kernel⟩

/-- Every timer running with one frame mark to go: zone 0 WAKING, zone 1 DRAINING, an entry in hand, an erase. -/
def counting : State :=
  let s := (zone0 (.waking 1) [entry .P 1 1] (.atRest (some 1))).updZone 1 (enabledZone (.draining 5 1) [] (.atRest none))
  { s with
    supervision := { watch := .watching 1, timeout := 2000, fresh := false },
    temp := { s.temp with pollTimer := some 1 },
    queue := { entries := [], hand := some { entry := gainEntry .P, marks := 1, fresh := false } },
    store :=
      { s.store with
        state := .erasing,
        op := some
          { command := .eraseSector, port := .C, sector := 0, captured := .erased, phase := .erase, left := 50 } } }

/-- The counters of a probe in a period, and one waiting for its period to open. -/
def countingProbe (r : Run) : State := { counting with probe := { counting.probe with state := .running r } }

theorem witness_FrameMarkCounts : NothingDue counting ∧
    (counting.supervision.watch = .watching (0 + 1) ∧ counting.supervision.fresh = false) ∧
    (counting.temp.pollTimer = some (0 + 1) ∧ counting.temp.pollFresh = false) ∧ (counting.sensor 7).fresh = false ∧
    (counting.queue.hand.map (·.fresh)) = some false ∧ counting.store.op.isSome = true ∧
    counting.store.state = .erasing ∧
    ((counting.zone 0).power.fresh = false ∧ counting.powerOf 0 = .waking (0 + 1)) ∧
    counting.powerOf 1 = .draining 5 (0 + 1) :=
  ⟨nothingDue_of _ (by decide +kernel), by decide +kernel⟩

theorem witness_FrameMarkCounts_probe : NothingDue (countingProbe (.toOpen 2)) ∧
    NothingDue (countingProbe (.opened 0 64 (some Window.initial) false)) ∧
    (countingProbe (.toOpen 2)).probe.state.run = some (.toOpen (1 + 1)) ∧
    (countingProbe (.opened 0 64 (some Window.initial) false)).probe.state.run =
      some (.opened 0 64 (some Window.initial) false) :=
  ⟨nothingDue_of _ (by decide +kernel), nothingDue_of _ (by decide +kernel), by decide +kernel⟩

/-- The same counts, begun at the coming frame mark. -/
def countingFresh : State :=
  let s := counting.updPower 0 fun x => { x with fresh := true }
  { s with
    supervision := { s.supervision with fresh := true },
    temp := { s.temp with pollFresh := true, sensors := s.temp.sensors.set 0 { s.temp.sensors[0] with fresh := true } } }

theorem witness_FrameMarkCounts_fresh : NothingDue countingFresh ∧ countingFresh.supervision.fresh = true ∧
    countingFresh.temp.pollFresh = true ∧ (countingFresh.sensor 0).fresh = true ∧
    (countingFresh.zone 0).power.fresh = true ∧ countingFresh.powerOf 0 ≠ .wakeWait :=
  ⟨nothingDue_of _ (by decide +kernel), by decide +kernel⟩

/-- Zone 0 LIVE with a fade in flight. -/
def mixing (up : Bool) : State := zone0 .live [entry .P 2 1] (.fading (some 1) (some 2) 5 2400 up)

theorem witness_SamplePeriodWrites : NothingDue live ∧ NothingEnding live ∧ AllocationInv live ∧
    (live.powerOf 31).heard = false ∧ live.powerOf 31 = .disabled ∧ (live.powerOf 0).inService = true ∧
    (live.active 0).allocation = some { base := 0, count := 1 } ∧
    (live.zone 0).route.fade = .atRest none ∧
    ∀ z : Zone, (live.powerOf z).inService = true → 524287 ≠ 0 * 1024 + (live.zone z).line.writePos :=
  ⟨live_nothing_due, live_nothing_ending, live_allocation, by decide +kernel⟩

/-- Zone 0 LIVE at rest on S7 with the unity factor. -/
def through : State :=
  (zone0 .live [entry .P 7 1] (.atRest (some 7))).updGain 0 fun g => { g with rampFrom := 4194304, rampTo := 4194304 }

theorem witness_SamplePeriodWrites_mixing : ∀ up, NothingDue (mixing up) ∧ NothingEnding (mixing up) ∧
    AllocationInv (mixing up) ∧ (mixing up).powerOf 0 = .live ∧
    ((mixing up).zone 0).route.fade = .fading (some 1) (some 2) 5 2400 up := by
  intro up
  cases up
  all_goals
    exact ⟨nothingDue_of _ (by decide +kernel), nothingEnding_of _ (by decide +kernel),
      allocationInv_of _ (by decide +kernel), by decide +kernel⟩

theorem witness_SamplePeriodPasses : NothingDue through ∧ NothingEnding through ∧ AllocationInv through ∧
    (through.powerOf 0).heard = true ∧ (through.zone 0).route.fade = .atRest (some 7) ∧ (7 : Source).val = (7 : Fin 8).val ∧
    (through.zone 0).eq.mode = .steady ∧ (∀ i : Fin 8, (through.zone 0).eq.running.sections[i].bypass = true) ∧
    (through.active 0).allocation = some { base := 0, count := 1 } ∧ (through.zone 0).line.writePos < 1 * 1024 ∧
    (through.zone 0).line.dCur = 0 ∧ (through.zone 0).gain.rampFrom = 4194304 ∧
    (through.zone 0).gain.rampTo = 4194304 :=
  ⟨nothingDue_of _ (by decide +kernel), nothingEnding_of _ (by decide +kernel),
    allocationInv_of _ (by decide +kernel), by decide +kernel⟩

theorem witness_RefusalsHold : commandPort (.storeZone .P 32) = some .P ∧ commandCode (.storeZone .P 32) = some 0x21 ∧
    State.reset.starting = true ∧ (State.reset.port .P).link.tx = none ∧
    (Takes ready .P ∧ portMay ready .P 0x21 = false) ∧
    portMay ready .C 0x21 = true ∧ ∃ n ∈ zonesNamed (.storeZone .C 32), 32 ≤ n := by
  refine ⟨rfl, rfl, by decide +kernel, by decide +kernel, by decide +kernel, by decide +kernel, 32, by decide, by decide⟩

theorem witness_ReadsAnswer :
    Reads (.readTargets .V [0, 31]) .V 0x0A (fun s => bytesList (bTargets s) [0, 31]) ∧ Takes ready .V :=
  ⟨.targets (by decide +kernel), by decide +kernel⟩

theorem witness_ChangeAppended :
    AsksChange (.gain .C (.zone 31) 25 .second) .C 0x02 (.one 31) (.gain 24 false) false ∧
    AsksChange (.evacGain .V .all 24) .V 0x08 .all (.evacGain 24) true ∧ (Takes ready .C ∧ Takes ready .V) ∧
    ¬ LockStops ready (.one 31) (.gain 24 false) ∧
    (∀ e ∈ (queued none []).queue.entries, e.sameKey (gainEntry .C) = false) ∧
    ((queued (some (completing .all (.gain 0 false))) (List.replicate 31 (gainEntry .P))).queue.entries.length < 32 ∧
      (∀ e ∈ List.replicate 31 (gainEntry .P),
        e.sameKey { port := .V, zone := .all, change := .evacGain 24, bypass := 0 } = false)) ∧
    (queued none (List.replicate 27 (gainEntry .P))).queue.countPC < 28 ∧
    (queued none []).queue.hand = none ∧ (queued none []).queue.entries = [] := by
  refine ⟨AsksChange.gain (g := 25) (by decide) rfl rfl, AsksChange.evacGain (g := 24) rfl, by decide +kernel, ?_,
    by decide +kernel⟩
  rintro ⟨z, -, h, -⟩
  have : ∀ z, ready.lockHolds z = false := by decide +kernel
  rw [this z] at h
  cases h

theorem witness_ChangeAppended_limits :
    Limits (.gain .C (.zone 31) 25 .second) [1] ∧ Limits (.evacGain .V .all 24) [] ∧
    Limits (.geometry .C (.zone 0) ⟨-1, 960, 6401, (Vector.replicate 8 15).set 7 16, none⟩) [1, 3, 11] :=
  ⟨Limits.gain, Limits.evacGain, Limits.geometry⟩

theorem witness_ChangeMergedOrRefused :
    AsksChange (.gain .C .all 24 .first) .C 0x02 .all (.gain 24 true) true ∧
    AsksChange (.coupling .C (.zone 0) none) .C 0x06 (.one 0) (.coupling none) true ∧
    Takes (queued none [gainEntry .C]) .C ∧
    (¬ LockStops (queued none [gainEntry .C]) .all (.gain 24 true) ∧
      gainEntry .C ∈ (queued none [gainEntry .C]).queue.entries ∧ (gainEntry .C).port = .C ∧ (gainEntry .C).zone = .all) ∧
    (Takes locked .C ∧ LockStops locked (.one 0) (.coupling none)) ∧
    ((∀ e ∈ List.replicate 28 (gainEntry .P), e.sameKey (gainEntry .C) = false) ∧
      28 ≤ (queued none (List.replicate 28 (gainEntry .P))).queue.countPC) ∧
    32 ≤ (queued none (List.replicate 32 (gainEntry .V))).queue.entries.length := by
  refine ⟨AsksChange.gain (g := 24) (by decide) rfl rfl, AsksChange.uncoupling rfl, by decide +kernel,
    ⟨fun ⟨z, h, _⟩ => (by cases h), by decide +kernel⟩,
    ⟨by decide +kernel, 0, rfl, by decide +kernel, .inr (.inr rfl)⟩, by decide +kernel⟩

theorem witness_NextEntryChosen : (queued none [gainEntry .P, gainEntry .V]).queue.hand = none ∧
    (queued none [gainEntry .P, gainEntry .V]).queue.entries ≠ [] := by decide +kernel

/-- An entry in hand that completes at the coming frame mark, taken before its FRAME_MARK. -/
def completingNext : State :=
  { queued (some { entry := gainEntry .P, marks := 1, fresh := false }) [] with sampleIndex := 48 }

theorem witness_ChangeLands :
    ((queued (some (completing (.one 31) (.gain 24 false))) [gainEntry .P]).queue.hand =
        some (completing (.one 31) (.gain 24 false)) ∧ (completing (.one 31) (.gain 24 false)).marks = 0 ∧
      dropReason (queued (some (completing (.one 31) (.gain 24 false))) [gainEntry .P]) (.one 31) (.gain 24 false) =
        none) ∧
    completingNext.sampleIndex = 48 ∧ completingNext.queue.entries = [] ∧
    completingNext.queue.hand = some { entry := gainEntry .P, marks := 1, fresh := false } ∧
    dropReason completingNext .all (.gain 24 true) = none := by decide +kernel

/-- A coupling of zone 0 to itself, to a follower, and of a leader. -/
def coupled : State := ready.updEntry 1 fun e => { e with shadow := { e.shadow with coupling := some ⟨2, 0⟩ } }

theorem witness_ChangeDropped :
    (completingNext.sampleIndex = 48 ∧ (completingNext.queue.hand.map fun h => (h.marks, h.fresh)) = some (1, false)) ∧
    (completing (.one 0) (.coupling none)).marks = 0 ∧ (completing (.one 0) (.coupling none)).entry.zone = .one 0 ∧
    locked.lockHolds 0 = true ∧ coupled.lockHolds 0 = false ∧ (⟨0, 0⟩ : Coupling).leader = 0 ∧
    (coupled.shadow (⟨1, 0⟩ : Coupling).leader).coupling = some ⟨2, 0⟩ ∧
    ((1 : Zone) ≠ 2 ∧ (coupled.shadow 1).coupling = some ⟨2, 0⟩ ∧ (⟨2, 0⟩ : Coupling).leader = 2) := by decide +kernel

theorem witness_GainFactors : ((-160 : Int) ≤ -160 ∧ (-160 : Int) ≤ 24) ∧ ((-160 : Int) ≤ 24 ∧ (24 : Int) ≤ 24) ∧
    ({ ZoneRecord.default with mute := true } : ZoneRecord).mute = true := by decide

theorem witness_SectionComputes : workedSection.bypass = false ∧ Section.default.bypass = true ∧ 0 < 768 ∧
    (5 ≤ 2400 ∧ 0 < 2400) ∧ 63 < 64 ∧ (1023 < 1 * 1024 ∧ 65279 / 64 + 1 < 1 * 1024) ∧ (1 ≤ 48 ∧ 48 ≤ 48) ∧
    ((-160 : Int) ≤ -160 ∧ (0 : Int) ≤ 0) ∧ (live.zone 0).gain.clip = 0 := by decide +kernel

/-- Zone 0 LIVE weighting slot 0, and zone 1 its follower, with slot 0 usable or not. -/
def weighting (usable : Bool) : State :=
  let s := (zone0 .live [] (.atRest none)).updEntry 0 fun e =>
    { e with active := { e.active with weights := e.active.weights.set 0 15 } }
  let s := s.updEntry 1 fun e => { e with active := { e.active with coupling := some ⟨0, 64⟩ } }
  let r : SensorRecord := { s.temp.sensors[0] with status := if usable then .manual 336 else .off }
  { s with temp := { s.temp with sensors := s.temp.sensors.set 0 r } }

theorem witness_ComputationSettles :
    ((0 : Int) ≤ 400000 ∧ (307060 : Int) ≤ 307060 ∧ (367660 : Int) ≤ 367660) ∧
    ((live.active 0).enabled = true ∧ (live.active 31).enabled = false) ∧
    (((computeOne .record 0 (weighting false)).zone 0).target.source = .held ∧
      ((weighting false).zone 0).target.held = false) ∧
    (((computeOne .record 0 (weighting true)).zone 0).target.tz ≠ ((weighting true).zone 0).target.tz) ∧
    ((weighting true).active 1).coupling = some ⟨0, 64⟩ ∧ (1 : Zone) ≠ 0 ∧ (weighting true).starting = false ∧
    FieldGroup.enable ∉ ([.geometry] : List FieldGroup) ∧ FieldGroup.geometry ∈ ([.geometry] : List FieldGroup) := by
  decide +kernel

/-- Zones 0 and 31 weighting slot 7. -/
def weightingTwo : State :=
  [0, 31].foldl
    (fun (s : State) (z : Zone) =>
      (s.updEntry z fun e => { e with active := { e.active with weights := e.active.weights.set 7 15 } }).updTarget z
        fun t => { t with source := .sensors }) ready

theorem witness_ComputationSettles_notice : weightingTwo.starting = false ∧ SourceInv weightingTwo ∧
    ([0, 31] : List Zone).Pairwise (· < ·) ∧ (∀ z, z ∈ ([0, 31] : List Zone) ↔ Notified weightingTwo 7 z) ∧
    ∀ y, ¬ Notified weightingTwo 1 y := by
  refine ⟨by decide +kernel, sourceInv_of _ (by decide +kernel), by decide, ?_, ?_⟩ <;> simp only [Notified] <;>
    decide +kernel

theorem witness_ComputationSettles_single : ∀ z k, ((weighting true).active z).coupling = some k → k.leader ≠ z := by
  have h : ∀ z : Zone, (((weighting true).active z).coupling.map fun k => decide (k.leader ≠ z)).getD true = true := by
    decide +kernel
  intro z k e
  have := h z
  rw [e] at this
  simpa using this

theorem witness_AllocateWrites : Takes live .C ∧
    ((AllocArg.mk 511 1).base ≤ 511 ∧ 1 ≤ (AllocArg.mk 511 1).count ∧ (AllocArg.mk 511 1).base + 1 ≤ 512) ∧
    (live.powerOf 1 = .disabled ∧ (live.active 1).enabled = false) ∧
    (∀ y, y ≠ 1 → ∀ b, (live.active y).allocation = some b → Allocation.overlaps ⟨511, 1⟩ b = false) ∧
    ((0 : Zone) ≠ 1 ∧ (live.active 0).allocation = some ⟨0, 1⟩ ∧ Allocation.overlaps ⟨0, 2⟩ ⟨0, 1⟩ = true) ∧
    live.powerOf 0 ≠ .disabled := by
  refine ⟨by decide +kernel, by decide, by decide +kernel, fun y _ b hb => ?_, by decide +kernel⟩
  have h : ∀ y : Zone, ((live.active y).allocation.map fun b => Allocation.overlaps ⟨511, 1⟩ b).getD false = false := by
    decide +kernel
  have := h y
  rw [hb] at this
  exact this

/-- A program fault of scene 7 recorded. -/
def faulted : State :=
  { ready with store :=
      { ready.store with fault := some { kind := .programFault, command := .storeScene, sector := 39, port := .P } } }

theorem witness_CommandsClear : (Port.P ≠ .V ∧ Takes ready .P ∧ ([31, 0] : List Nat).length ≤ 32 ∧
      ∀ n ∈ ([31, 0] : List Nat), n < 32) ∧
    (Takes faulted .P ∧ Takes faulted .C) ∧
    faulted.store.fault = some { kind := .programFault, command := .storeScene, sector := 39, port := .P } ∧
    32 ≤ (39 : SectorNo).val ∧ (39 : SectorNo).val ≤ 39 := by decide +kernel

/-- Zone 0 alone with the estimate source REFERENCE. -/
def referring : State :=
  let s : State := { ready with zones := ready.zones.map fun x => { x with target := { x.target with source := .sensors } } }
  s.updTarget 0 fun t => { t with source := .reference }

theorem witness_SetSystemWrites : Takes ready .C ∧ max (-640 : Int) (min 960 320) = ready.settings.tRef ∧
    max (-640 : Int) (min 960 961) ≠ ready.settings.tRef ∧ SourceInv ready ∧ allZones.Pairwise (· < ·) ∧
    (∀ z, z ∈ allZones ↔ (ready.zone z).target.source = .reference) ∧ Takes referring .C ∧
    (referring.zone 31).target.source ≠ .reference ∧ ∀ y, (referring.active y).coupling = none :=
  ⟨by decide +kernel, by decide +kernel, by decide +kernel, sourceInv_of _ (by decide +kernel), by decide +kernel⟩

/-- Slot 0 enabled and VALID at 20.0 °C with two failures, slot 1 in FAULT, and slot 0's transaction in flight. -/
def sensing : State :=
  let r : SensorRecord :=
    { status := .valid, lastAccepted := some 320, failures := 2, framesSince := 30001, lastFailure := none, fresh := false }
  { ready with
    settings := { ready.settings with sensors := ready.settings.sensors.set 0 { enabled := true, address := 0x48 } },
    temp :=
      { sensors := (ready.temp.sensors.set 0 r).set 1 { r with status := .fault }, pollTimer := some 0, pollFresh := false,
        round := some { slot := 0, address := 0x48, rest := [], spikeLimit := 32, void := false } } }

/-- The same with another transaction in flight. -/
def sensingRound (slot : Fin 8) (rest : List (Fin 8)) (void : Bool) : State :=
  { sensing with
    temp := { sensing.temp with round := some { slot := slot, address := 0x48, rest := rest, spikeLimit := 32, void := void } } }

theorem witness_SensorCommands : Takes sensing .C ∧ choiceBool .first = some true ∧ choiceBool .second = some false ∧
    (0x08 ≤ 0x48 ∧ 0x48 ≤ 0x77) ∧ sensing.sensorFields 0 = { enabled := true, address := 0x48 } ∧
    sensing.sensorFields 7 ≠ { enabled := true, address := 0x77 } ∧ (sensing.sensor 7).status = .off ∧
    (sensing.sensor 0).status ≠ .off ∧ (sensing.sensor 0).status.isUsable = true ∧
    ((nextOf (exec (.sensorAuto .C 0) sensing)).sensor 0).status.isUsable = false := by decide +kernel

theorem witness_SensorOutcomes : ready.temp.round = none ∧
    ((sensingRound 0 [] true).temp.round =
      some { slot := 0, address := 0x48, rest := [], spikeLimit := 32, void := true }) ∧
    (sensing.temp.round = some { slot := 0, address := 0x48, rest := [], spikeLimit := 32, void := false }) ∧
    (-640 ≤ (352#16).toInt ∧ (352#16).toInt ≤ 960 ∧ ((352#16).toInt - 320).natAbs ≤ 32) ∧
    ((sensingRound 1 [] false).sensor 1).status = .fault ∧ 960 < (961#16).toInt ∧
    ((sensing.sensor 0).status = .valid ∧ (sensing.sensor 0).lastAccepted = some 320 ∧
      32 < ((353#16).toInt - 320).natAbs) ∧
    2 ≤ (sensing.sensor 0).failures ∧ (sensing.sensor 0).status ≠ .fault ∧
    ((nextOf (exec (.sensorTransactionEnd .noAcknowledge) (sensingRound 1 [2, 0] false))).temp.round.map
      fun x => (x.slot, x.rest)) = some (0, []) := by decide +kernel

/-- The same before the FRAME_MARK at which the poll timer expires and slot 0 becomes STALE, in IDLE. -/
def sensingNext : State :=
  { sensing with
    sampleIndex := 48,
    temp :=
      { sensing.temp with
        sensors := sensing.temp.sensors.set 0 { sensing.temp.sensors[0] with framesSince := 30000 }, pollTimer := some 1,
        round := none } }

theorem witness_PollAndStale : sensing.temp.pollTimer = some 0 ∧ sensing.temp.round.isSome = true ∧
    (sensingNext.sampleIndex = 48 ∧ sensingNext.temp.pollTimer = some 1 ∧ sensingNext.temp.pollFresh = false ∧
      sensingNext.temp.round = none ∧
      (nextOf (exec .pollTimerExpiry sensingNext)).temp.round.isSome = true) ∧
    ((sensing.sensor 0).status = .valid ∧ sensing.sampleIndex = 0 ∧
      sensing.settings.staleLimit * 1000 < (sensing.sensor 0).framesSince) ∧
    (sensingNext.settings.staleLimit * 1000 < (sensingNext.sensor 0).framesSince + 1 ∧
      (sensingNext.sensor 0).fresh = false) ∧
    (nextOf (exec .pollTimerExpiry { ready with temp := { ready.temp with pollTimer := some 0 } })).temp.round = none := by
  decide +kernel

/-- Zone 0 LIVE with a full set of port P's entries but one of port C. -/
def full : State :=
  zone0 .live [entry .P 0 4, entry .P 1 3, entry .P 2 2, entry .P 3 1, entry .C 4 1, entry .P 4 1] (.atRest (some 0))

/-- Zone 0 LIVE with a full set of port V. -/
def fullV : State :=
  zone0 .live [entry .V 0 7, entry .V 1 6, entry .V 2 5, entry .V 3 4, entry .V 4 3, entry .V 5 2] (.atRest (some 0))

theorem witness_RoutesRaised : Takes live .P ∧ ProbeAside live [0, 31] ∧ ([0, 31] : List Nat).length ≤ 32 ∧
    (∀ n ∈ ([0, 31] : List Nat), n < 32) ∧ (7 : Source).val < 8 ∧ 1 ≤ 1 ∧
    ((0 : Zone).val ∈ ([0, 31] : List Nat) ∧ live.powerOf 0 ≠ .disabled ∧ (live.zone 0).route.entries.length < 6) ∧
    live.powerOf 31 = .disabled ∧
    (6 ≤ (full.zone 0).route.entries.length ∧
      ((full.zone 0).route.entries.any fun x => decide (x.port = .P ∧ x.source = 7)) = false ∧
      ((full.zone 0).route.entries.any fun x => decide (x.port = .P ∧ x.source = 3)) = true) :=
  ⟨by decide +kernel, .inl (.inl rfl), by decide +kernel⟩

/-- Zone 0 LIVE under the probe's entry, with the probe waiting for it. -/
def probing : State :=
  let s := zone0 .live [entry .C 8 5, entry .P 1 1] (.atRest (some 8))
  { s with probe := { s.probe with state := .waitingZone } }

/-- The same under an entry of port V, without a fade length. -/
def probingUnder : State :=
  let s := (zone0 .live [entry .V 0 5, entry .C 8 5] (.atRest (some 0))).updEntry 0 fun e =>
    { e with active := { e.active with fadeLength := 0 } }
  { s with probe := { s.probe with state := .waitingZone } }

theorem witness_RoutesRaised_run :
    (Takes probing .P ∧ probing.probe.current.zone = 0 ∧ probing.powerOf 0 ≠ .disabled ∧
      (probing.zone 0).route.entries.length < 6 ∧ (probing.zone 0).route.entries.Pairwise (fun a b => a.before b = true) ∧
      ((nextOf (exec (.routeRaise .P [0] 2 1) probing)).zone 0).route.entries.head? = some (entry .C 8 5)) ∧
    (Takes probingUnder .V ∧ probingUnder.probe.state = .waitingZone ∧
      (∃ x ∈ (probingUnder.zone 0).route.entries, x.port = .V ∧ x.source = 0) ∧
      ((nextOf (exec (.routeRaise .V [0] 0 1) probingUnder)).zone 0).route.entries.head? = some (entry .C 8 5) ∧
      (nextOf (exec (.routeRaise .V [0] 0 1) probingUnder)).probe.state = .running (.toOpen 1)) := by decide +kernel

theorem witness_RaiseEvicts : (Takes full .V ∧ (7 : Source).val < 8 ∧ (1 ≤ 7 ∧ 7 ≤ 7) ∧
      full.powerOf 0 ≠ .disabled ∧ 6 ≤ (full.zone 0).route.entries.length ∧
      (∀ x ∈ (full.zone 0).route.entries, ¬ (x.port = .V ∧ x.source = 7)) ∧
      (∃ x ∈ (full.zone 0).route.entries, x.port ≠ .V)) ∧
    (Takes fullV .V ∧ fullV.powerOf 0 ≠ .disabled ∧ 6 ≤ (fullV.zone 0).route.entries.length ∧
      (∀ x ∈ (fullV.zone 0).route.entries, ¬ (x.port = .V ∧ x.source = 7)) ∧
      ∀ x ∈ (fullV.zone 0).route.entries, x.port = .V) ∧
    ProbeAside full [0] ∧ ProbeAside fullV [0] :=
  ⟨by decide +kernel, by decide +kernel, .inl (.inl rfl), .inl (.inl rfl)⟩

theorem witness_RoutesDropped : Takes full .P ∧ (ProbeAside full [0, 31] ∧ ProbeQuiet full) ∧
    ([0, 31] : List Nat).length ≤ 32 ∧
    (∀ n ∈ ([0, 31] : List Nat), n < 32) ∧ (4 : Source).val < 8 ∧
    ((0 : Zone).val ∈ ([0, 31] : List Nat) ∧ full.powerOf 0 ≠ .disabled) ∧ full.powerOf 31 = .disabled ∧
    (1 : Zone).val ∉ ([0, 31] : List Nat) :=
  ⟨by decide +kernel, ⟨.inl (.inl rfl), .inl rfl⟩, by decide +kernel⟩

/-- A probe that waits, runs or stops answers notices. -/
theorem not_quiet {s : State} (h : s.probe.state ≠ .idle) (k : ∀ e, s.probe.state ≠ .armed e) : ¬ ProbeQuiet s :=
  fun q => q.elim h fun ⟨e, a⟩ => k e a

theorem witness_RoutesDropped_run : Takes probingUnder .V ∧ ¬ ProbeQuiet probingUnder ∧
    (probingUnder.probe.current.zone = 0 ∧ probingUnder.probe.state = .waitingZone ∧ probingUnder.powerOf 0 ≠ .disabled) ∧
    (probingUnder.zone 0).route.entries.head? = some (entry .V 0 5) ∧
    ((probingUnder.zone 0).route.entries.filter fun x => decide (¬ (x.port = .V ∧ x.source = 0))) = [entry .C 8 5] ∧
    ((probingUnder.zone 0).route.entries.filter fun x => decide (¬ (x.port = .V ∧ x.source.val < 8))) = [entry .C 8 5] ∧
    ((probing.zone 0).route.entries.filter fun x => decide (¬ (x.port = .P ∧ x.source = 1))).head? =
      (probing.zone 0).route.entries.head? :=
  ⟨by decide +kernel, not_quiet (fun h => nomatch h) (fun _ h => nomatch h), by decide +kernel⟩

theorem witness_PowerFollowsWinner : [entry .P 0 1] ≠ [] ∧
    (parked.powerOf 0 = .parked ∧ (parked.zone 0).route.entries = []) ∧
    (waiting.powerOf 0 = .wakeWait ∧ (waiting.zone 0).route.entries ≠ []) ∧
    (counting.powerOf 0 = .waking 1 ∧ (counting.zone 0).route.entries ≠ []) ∧ full.powerOf 0 = .live ∧
    (counting.powerOf 1 = .draining 5 1 ∧ (counting.zone 1).route.entries = []) ∧ ready.powerOf 0 = .disabled := by
  decide +kernel

/-- Zone 0 LIVE with an empty set, its fade to silence mixed with its last p. -/
def fading : State := zone0 .live [] (.fading (some 1) none 2400 2400 true)

/-- Zone 0 LIVE at rest on S8 under the probe's entry, its fade over, with the probe waiting. -/
def fadingProbe : State :=
  let s := zone0 .live [entry .C 8 5] (.fading none (some 8) 2400 2400 true)
  { s with probe := { s.probe with state := .waitingZone }, sampleIndex := 48 }

/-- Zone 0 LIVE with its crossfade mixed with p = 768, and zone 1 waiting while zones 2 to 4 hold the other slots. -/
def crossfading (held : Bool) : State :=
  let c : Cascade := Cascade.setUp { ZoneRecord.default with eqSelect := 1 }
  let s := live.updEq 0 fun e => { e with mode := .xfade c 768 0 held }
  let s := s.updEq 1 fun e => { e with mode := .wait, running := c }
  let s := s.updEq 2 fun e => { e with mode := .xfade c 0 1 false }
  let s := s.updEq 3 fun e => { e with mode := .xfade c 0 2 false }
  let s := s.updEq 4 fun e => { e with mode := .xfade c 0 3 false }
  { s with eqWait := [1] }

/-- The same with zone 1's change undone while it waited. -/
def undone : State :=
  (crossfading false).updEntry 1 fun e =>
    { e with active := { e.active with eqSelect := 1 } }

theorem witness_FadesTurnAndEnd :
    (([entry .P 1 1].head? ≠ (live.zone 0).route.entries.head? ∧ (live.powerOf 0).heard = true) ∧
      ([entry .P 1 1].head? ≠ (parked.zone 0).route.entries.head? ∧ (parked.powerOf 0).heard = false) ∧
      (([] : List RouteEntry).head? ≠ (evacuated.zone 0).route.entries.head? ∧ evacuated.powerOf 0 = .live)) ∧
    ((some 1 : Option Source) ≠ none ∧ (some 1 : Option Source) ≠ some 2 ∧ 0 < 2400 ∧ 5 ≤ 2400 ∧ 2400 ≠ 4800 ∧ 0 < 4800) ∧
    ((fading.zone 0).route.fade = .fading (some 1) none 2400 2400 true ∧ 2400 ≤ 2400) ∧
    ((fadingProbe.zone 0).route.fade = .fading none (some 8) 2400 2400 true ∧ fadingProbe.probe.state = .waitingZone ∧
      fadingProbe.probe.current.zone = 0 ∧ fadingProbe.powerOf 0 = .live ∧
      (fadingProbe.zone 0).route.entries.head? = some (entry .C 8 5)) := by decide +kernel

/-- Zone 31 allocated the last page. -/
def lastPage : State := ready.updEntry 31 fun e => { e with active := { e.active with allocation := some ⟨511, 1⟩ } }

theorem witness_FadesTurnAndEnd_crossfade : ∀ held,
    let s := crossfading held
    ((s.zone 0).eq.mode = .xfade (Cascade.setUp { ZoneRecord.default with eqSelect := 1 }) 768 0 held ∧ 768 ≤ 768) ∧
      (∀ y, (s.zone y).eq.slot = some 0 → y = 0) ∧ s.eqWait = 1 :: [] ∧ (1 : Zone) ≠ 0 ∧
      s.freeSlot = none ∧ (s.zone 1).eq.mode = .wait ∧
      (s.zone 1).eq.running.bank ≠ (s.active 1).eqSelect ∧ ({ s with eqWait := [] } : State).eqWait = [] := by
  decide +kernel

theorem witness_FadesTurnAndEnd_undone : undone.eqWait = 1 :: [] ∧ (undone.zone 1).eq.mode = .wait ∧
    (undone.zone 1).eq.running.bank = (undone.active 1).eqSelect ∧
    (undone.zone 1).eq.running.sections = (undone.active 1).banks[(undone.active 1).eqSelect] := by decide +kernel

theorem witness_ZoneEnabled :
    (Takes lastPage .C ∧ lastPage.powerOf 31 = .disabled ∧ (lastPage.active 31).allocation = some ⟨511, 1⟩) ∧
    (Takes ready .C ∧ ready.powerOf 0 = .disabled ∧ (ready.active 0).allocation = none) ∧
    Takes live .C ∧ live.powerOf 0 ≠ .disabled := by decide +kernel

theorem witness_ZoneDisabled : Takes probing .C ∧ probing.powerOf 0 ≠ .disabled ∧
    (∀ e ∈ (probing.zone 0).route.entries, e.port ≠ .V) ∧
    ((probing.zone 0).route.entries.filter fun e => decide (e.port = .P)) ≠ [] ∧
    ((live.zone 0).route.entries.filter fun e => decide (e.port = .P)) = [] ∧
    (∃ e ∈ (probing.zone 0).route.entries, e.port = .C ∧ e.source = 8) ∧ probing.probe.current.zone = 0 ∧
    (Takes evacuated .C ∧ evacuated.powerOf 0 ≠ .disabled ∧
      ∃ e ∈ (evacuated.zone 0).route.entries, e.port = .V) := by decide +kernel

/-- Zone 0 WAKING and zone 1 DRAINING with nothing left, zone 1 waiting for a crossfade slot. -/
def elapsed : State :=
  let s := (zone0 (.waking 0) [entry .P 1 1] (.atRest (some 1))).updZone 1 (enabledZone (.draining 5 0) [] (.atRest none))
  let s := s.updEq 1 fun e => { e with mode := .wait }
  { s with eqWait := [1] }

theorem witness_PowerTimesElapse : (elapsed.powerOf 0 = .waking 0) ∧
    (({ counting with sampleIndex := 48 } : State).powerOf 0 = .waking 1 ∧
      ({ counting with sampleIndex := 48 } : State).sampleIndex = 48 ∧ (counting.zone 0).power.fresh = false) ∧
    elapsed.powerOf 1 = .draining 5 0 ∧ (elapsed.zone 1).eq.mode ≠ .steady ∧ (counting.zone 1).eq.mode = .steady := by
  decide +kernel

/-- Port V's supervision in a state. -/
def watched (w : Watch) : State := { ready with supervision := { watch := w, timeout := 100, fresh := false } }

/-- `counting` before the FRAME_MARK that stops its timers. -/
def countingNext : State := { counting with sampleIndex := 48 }

theorem probing_not_quiet : ¬ ProbeQuiet probing := not_quiet (fun h => nomatch h) fun _ h => nomatch h

theorem witness_SupervisionWatches : (Takes (watched .lost) .V ∧ (watched .lost).supervision.watch = .lost) ∧
    (Takes ready .V ∧ ready.supervision.watch ≠ .lost) ∧
    (watched (.watching 0)).supervision.watch = .watching 0 ∧ countingNext.sampleIndex = 48 ∧
    countingNext.supervision.watch = .watching 1 ∧ countingNext.supervision.fresh = false := by decide +kernel

/-- A state with the probe in a state. -/
def probed (x : ProbeState) (s : State) : State := { s with probe := { s.probe with state := x } }

/-- Probe settings at the ends of their ranges. -/
def probeArg : ProbeArg := ⟨31, 10, 48, -160, 8388607, 11, 7, .second⟩

theorem witness_ProbeCommands :
    (probeArg.zone = (31 : Zone).val ∧ probeArg.source = (7 : Fin 8).val ∧ choiceBool probeArg.mode = some false) ∧
    Takes (probed .idle ready) .C ∧ (probed .idle ready).probe.state = .idle ∧
    (probed (.stopping (.toOpen 0)) ready).probe.state = .stopping (.toOpen 0) ∧
    (probed (.armed .rising) ready).probe.state = .armed .rising ∧ probing.probe.state = .waitingZone ∧
    (probed (.running (.toOpen 1)) ready).probe.state = .running (.toOpen 1) := by decide +kernel

/-- Zone 0 LIVE with room in its set, the probe's entry its winner, and another pending zone. -/
def aborting (x : ProbeState) : State :=
  let s := probed x (zone0 .live [entry .C 8 5, entry .P 1 1] (.atRest (some 8)))
  { s with probe := { s.probe with pending := { s.probe.pending with zone := 1 } } }

/-- Zone 0 LIVE with a full set in which the probe's entry goes first. -/
def evicting : State :=
  probed .waitingZone
    (zone0 .live [entry .V 0 7, entry .V 1 6, entry .C 2 5, entry .C 3 5, entry .C 4 5, entry .C 8 5] (.atRest (some 0)))

theorem witness_ProbeStarts : live.probe.pending.zone = 0 ∧
    (Takes live .C ∧ live.probe.state = .idle ∧ live.powerOf 0 ≠ .disabled) ∧ choiceBool .second = some false ∧
    (live.winnerLevel 0 < 6 ∧ probeFits live 0 = true) ∧
    (Takes full .C ∧ full.probe.state = .idle ∧ full.powerOf 0 ≠ .disabled ∧ full.winnerLevel 0 < 6 ∧
      probeFits full 0 = false) ∧
    (Takes ready .C ∧ ready.powerOf 0 = .disabled) ∧ (Takes evacuated .C ∧ 6 ≤ evacuated.winnerLevel 0) ∧
    (Takes probing .C ∧ probing.probe.state ≠ .idle) ∧
    ((probed (.armed .falling) live).probe.state = .armed .falling ∧ Edge.rising ≠ .falling) ∧
    (probed (.armed .rising) full).probe.state = .armed .rising := by decide +kernel

/-- An open detection record with a crossing. -/
def window : Window :=
  { k := 24000, prev := 0, crossing := some { raw := 76768, early := false }, peak := 612000, overload := false,
    slewing := false }

theorem witness_ProbeStarts_abort : ∀ x ∈ [ProbeState.running (.toOpen 1), .stopping (.toOpen 1)],
    (aborting x).probe.state = x ∧ Takes (aborting x) .V ∧ (aborting x).powerOf 0 ≠ .disabled ∧
    ((aborting x).probe.current.zone = 0 ∧ (aborting x).probe.pending.zone ≠ 0) ∧
    ((aborting x).zone 0).route.entries.head? = some { port := .C, source := 8, level := 5 } ∧
    ((aborting x).zone 0).route.entries.length < 6 ∧
    ∀ e ∈ ((aborting x).zone 0).route.entries, e.level < 6 := by decide +kernel

theorem witness_ProbeStarts_evict : Takes evicting .V ∧ evicting.powerOf 0 ≠ .disabled ∧ evicting.probe.current.zone = 0 ∧
    evicting.probe.state = .waitingZone ∧ 6 ≤ (evicting.zone 0).route.entries.length ∧
    (∀ x ∈ (evicting.zone 0).route.entries, ¬ (x.port = .V ∧ x.source = 7)) ∧
    { port := .C, source := 8, level := 5 } ∈ (evicting.zone 0).route.entries ∧
    ∀ x ∈ (evicting.zone 0).route.entries, x.port = .V ∨ x = { port := .C, source := 8, level := 5 } ∨ 5 < x.level ∨
      (x.level = 5 ∧ x.source.val < 8) := by decide +kernel

/-- A probe whose pending settings repeat, in a zone. -/
def repeating (z : Zone) : State :=
  { live with probe := { live.probe with pending := { live.probe.pending with repeating := true, zone := z } } }

theorem witness_ProbePeriods : ∀ stopping : Bool,
    let st := fun r : Run => if stopping then ProbeState.stopping r else ProbeState.running r
    (probed (st (.toOpen 0)) live).probe.state = st (.toOpen 0) ∧
    ((probed (st (.opened 500 0 (some window) false)) live).probe.state = st (.opened 500 0 (some window) false) ∧
      live.probe.current.window ≤ 500) ∧
    ((probed (st (.opened 999 0 none true)) live).probe.state = st (.opened 999 0 none true) ∧
      live.probe.pending.repeating = false) ∧
    (((repeating 0).probe.pending.repeating = true ∧ (repeating 0).probe.pending.zone = (repeating 0).probe.current.zone) ∧
      (repeating 1).probe.pending.zone ≠ (repeating 1).probe.current.zone) ∧
    ({ probed (st (.opened 999 0 none false)) live with sampleIndex := 48 } : State).sampleIndex = 48 ∧
    live.probe.current.period ≤ 999 + 1 := by
  decide +kernel

/-- One FOUND result of a zone with an acoustic arrival. -/
def found (z : Zone) (raw : Nat) : ProbeResult :=
  { zone := z, status := .found, raw := some raw, emission := 0, peak := 0, early := false, overload := false,
    slewing := false }

/-- Zone 7 with reference zone 0 and the arrivals of section 9.12, oldest first. -/
def adopting : State :=
  let s := ready.updEntry 7 fun e => { e with shadow := { e.shadow with reference := some 0 } }
  let s := s.updTarget 7 fun t => { t with tz := some 336, c := 344026 }
  { s with
    queue := { entries := [], hand := some (completing .all (.gain 0 false)) },
    probe :=
      { s.probe with
        results :=
          [found 7 12000, found 7 12020, found 0 904590, found 7 12010, found 0 904500, found 7 11980, found 0 904620,
            found 7 12040, found 0 904560] } }

theorem witness_ProbePeriods_sample :
    let s := probed (.running (.opened 0 0 (some Window.initial) false)) live
    NothingDue s ∧ NothingEnding s ∧ AllocationInv s :=
  ⟨nothingDue_of _ (by decide +kernel), nothingEnding_of _ (by decide +kernel), allocationInv_of _ (by decide +kernel)⟩

theorem witness_ProbeAdopts : Takes adopting .C ∧ (adopting.shadow 0).reference = none ∧
    (adopting.shadow 7).reference = some 0 ∧ (live.shadow 0).reference = none ∧
    (0 : Int) ≤ (adopting.zone 7).target.c ∧ adopting.lockHolds 7 = false ∧ adopting.queue.hand.isSome = true ∧
    adopting.queue.entries.length < 32 ∧ adopting.queue.countPC < 28 ∧
    (adopting.probe.results.filter fun x => decide (x.zone = 7 ∧ x.status = .found)).length = 5 ∧
    (adopting.probe.results.filter fun x => decide (x.zone = 0 ∧ x.status = .found)).length = 4 := by decide +kernel

theorem witness_ProbeAdopts_queue :
    let own : QueueEntry :=
      { port := .C, zone := .one 7, bypass := 3, change := .geometry ⟨0, 0, 0, Vector.replicate 8 0, none⟩ }
    (sectored 7 (validSector (.zone ZoneRecord.default) true) adopting).lockHolds 7 = true ∧
    (own.port = .C ∧ own.zone = .one 7 ∧ own.change.kind = .geometry) ∧
    (∀ y ∈ List.replicate 32 (gainEntry .V), ¬ (y.port = .C ∧ y.zone = .one 7 ∧ y.change.kind = .geometry)) ∧
    adopting.queue.entries = [] ∧ ({ adopting with queue := { entries := [], hand := none } } : State).lockHolds 7 = false :=
  by decide +kernel

/-- Section 9.12: the path length adopted is 99,955 mm. -/
theorem test_adopt :
    ((nextOf (exec (.probeAdopt .C 7) adopting)).queue.entries.map fun e =>
      match e.change with
      | .geometry g => g.pathLength
      | _ => 0) = [99955] := by decide +kernel

/-- The same with the reference zone's arrivals before the zone's own. -/
def adoptingBack : State := adopting.updEntry 0 fun e => { e with shadow := { e.shadow with reference := some 7 } }

theorem witness_ProbeAdopts_negative : (adoptingBack.shadow 0).reference = some 7 ∧
    ((nextOf (exec (.probeAdopt .C 0) adoptingBack)).port .C).link.tx.map (·.result) = some .negativePath := by
  decide +kernel

theorem witness_WritesBegin :
    Writes (.lockZone .C 0) .C .lockZone (zoneSector 0) (fun _ => .erased) ∧
    Writes (.storeScene .P 0) .P .storeScene (sceneSector 0) (fun s => .scene (capturedScene s)) ∧
    Writes (.storeZone .C 0) .C .storeZone (zoneSector 0) (fun s => .zone (s.active 0)) ∧
    (Takes locked .C ∧ locked.store.state = .ready ∧ locked.store.fault = none ∧
      (locked.sector (zoneSector 0)).state = .valid) ∧
    ((zoneSector 0).val < 32 ∧ (locked.sector (zoneSector 0)).lock = true ∧ locked.store.override = false) ∧
    (Takes counting .C ∧ counting.store.state ≠ .ready) ∧
    (Takes faulted .P ∧ faulted.store.state = .ready ∧ faulted.store.fault ≠ none) ∧
    (ready.sector (zoneSector 0)).state ≠ .valid := by
  refine ⟨.lockZone rfl, .storeScene rfl (by decide), .storeZone rfl, by decide +kernel⟩

/-- A store in a phase of an operation. -/
def phase (st : StoreState) (c : WriteCommand) (n : SectorNo) (x : Phase) : State :=
  { ready with store :=
      { ready.store with
        state := st,
        op := some { command := c, port := .P, sector := n, captured := .scene scene, phase := x, left := 0 } } }

/-- A state with recalls waiting. -/
def recalled (l : List Recall) (s : State) : State := { s with store := { s.store with recalls := l } }

theorem witness_PhasesEnd :
    ((phase .erasing .eraseSector 31 .erase).store.state = .erasing ∧
      (phase .erasing .eraseSector 31 .erase).store.recalls = []) ∧
    (phase .erasing .storeScene 39 .erase).store.state = .erasing ∧ WriteCommand.storeScene ≠ .eraseSector ∧
    zoneSector 31 = 31 ∧ (phase .programming .storeScene 39 .program).store.state = .programming ∧
    (phase .locking .lockZone 0 .lock).store.state = .locking ∧
    (recalled [⟨.V, 7⟩, ⟨.P, 5⟩] (phase .locking .lockZone 0 .lock)).store.recalls = ⟨.V, 7⟩ :: [⟨.P, 5⟩] := by
  decide +kernel

/-- Scene 7's sector VALID. -/
def sceneReady : State := sectored 39 (validSector (.scene scene) false) ready

/-- Port V's recall of scene 7 being read, an entry in hand. -/
def sceneReading : State :=
  let s := sectored 39 (validSector (.scene scene) false) (queued (some (completing .all (.gain 0 false))) [])
  { s with store := { s.store with state := .reading, reading := some { port := .V, scene := 7 } } }

/-- Scene 5's sector VALID while scene 7's is programmed. -/
def sceneOther : State := sectored 37 (validSector (.scene scene) false) (phase .programming .storeScene 39 .program)

/-- The store suspending for port V's recall of scene 7. -/
def suspending : State :=
  { ready with store := { ready.store with state := .suspending, recalls := [{ port := .V, scene := 7 }] } }

theorem witness_ScenesRecalled :
    (Takes sceneReady .V ∧ (sceneReady.sector (sceneSector 7)).state = .valid ∧ sceneReady.store.state = .ready ∧
      sceneReady.store.op = none ∧ sceneReady.store.recalls = []) ∧
    (Fin.val (5 : Fin 8) ≤ 5 ∧ Takes sceneOther .P ∧ (sceneOther.sector (sceneSector 5)).state = .valid ∧
      (sceneOther.store.op.map (·.sector)) = some 39 ∧ (39 : SectorNo) ≠ sceneSector 5 ∧
      sceneOther.store.state = .programming) ∧
    ((recalled [⟨.V, 7⟩, ⟨.P, 5⟩] sceneOther).store.recalls = [⟨.V, 7⟩] ++ [⟨.P, 5⟩] ∧
      (∀ r ∈ ([⟨.V, 7⟩] : List Recall), r.port = .V) ∧ ∀ r ∈ ([⟨.P, 5⟩] : List Recall), r.port ≠ .V) ∧
    4 ≤ (recalled (List.replicate 4 ⟨.P, 5⟩) sceneOther).store.recalls.length ∧
    (sceneSector 7 = 39 ∧ (ready.sector (sceneSector 7)).state = .blank) ∧
    (suspending.store.state = .suspending ∧ suspending.store.recalls = { port := .V, scene := 7 } :: []) := by
  decide +kernel

/-- Port P with two events set, at levels 7 and 3, and one kind disabled. -/
def noted : State :=
  let s := (ready.raise .P (.clip 3 true)).raise .P (.supervision .lost 2000)
  s.updNote .P 15 fun f => { f with enable := false }

theorem witness_ScenesRecalled_read :
    (sceneReading.store.state = .reading ∧ sceneReading.store.reading = some { port := .V, scene := 7 } ∧
      sceneReading.store.recalls = [] ∧ sceneReading.queue.hand.isSome = true ∧ sceneReading.queue.entries = []) ∧
    (sceneReading.sector (sceneSector 7)).contents = .scene scene ∧
    (Contents.scene scene).checkValue = (sceneReading.sector (sceneSector 7)).check := by
  have h : sceneReading.sector (sceneSector 7) = validSector (.scene scene) false := by
    simp [sceneReading, sectored, State.sector, State.updSector, sceneSector]
  exact ⟨by decide +kernel, by rw [h]; rfl, by rw [h]; rfl⟩

theorem witness_NotesFollow : Takes noted .P ∧
    (noted.notes .P)[(Detail.clip 3 true).kind].enable = true ∧
    (noted.notes .P)[(Detail.queueDrained .all .gain).kind].enable = true ∧ (noted.notes .P)[(15 : Fin 16)].enable = false ∧
    noted.notifyLine .P = true ∧ noted.leadEvent .P = some 0 ∧ choiceBool .first = some true ∧
    ∀ n ∈ ([1, 16, 16] : List Nat), 1 ≤ n ∧ n ≤ 16 := by decide +kernel

/-- Port P's receiver in a state. -/
def receiving (x : Receiver) : State := ready.updLink .P fun l => { l with rx := x }

theorem witness_FramesGathered : ((receiving .hunt).port .P).link.rx = .hunt ∧
    (1 ≤ ([0x31#8] : List Byte).length ∧ (List.replicate 257 0x31#8).length ≤ 257 ∧ ([1#8, 2#8] : List Byte).length = 2) ∧
    ((receiving (.length [])).port .P).link.rx = .length [] ∧
    ((receiving (.body 2 [0x31#8])).port .P).link.rx = .body 2 [0x31#8] ∧
    ((receiving (.check [0x31#8] [])).port .P).link.rx = .check [0x31#8] [] ∧
    (((receiving (.length [1#8])).port .P).link.rx = .length [1#8] ∧ 257 < (1#8).toNat * 256 + (2#8).toNat ∧
      (0#8).toNat * 256 + (0#8).toNat = 0) := by decide +kernel

/-- Port P with a whole READ_STATUS frame received. -/
def whole : State := receiving (.whole (0x31#8 :: []) (checkBytes [0x31#8]))

/-- The same with its transmitter busy and frames buffered. -/
def busy (buffer : List Frame) : State :=
  whole.updLink .P fun l =>
    { l with tx := some { cmd := 0xB1#8, result := .ok, payload := [], restarts := false }, buffer := buffer }

theorem witness_LinksAnswer :
    ((whole.port .P).link.rx = .whole (0x31#8 :: []) (checkBytes [0x31#8]) ∧ (whole.port .P).link.tx = none ∧
      (whole.port .P).link.buffer = [] ∧ decodeCommand .P 0x31#8 [] = .command (.readStatus .P) ∧
      decodeCommand .P 0x31#8 [0#8] = .malformed) ∧
    (((busy [⟨0x31#8, []⟩]).port .P).link.tx.isSome = true ∧ ((busy [⟨0x31#8, []⟩]).port .P).link.buffer.length < 2 ∧
      commandPort (.readStatus .P) = some .P) ∧
    2 ≤ ((busy [⟨0x31#8, []⟩, ⟨0x31#8, []⟩]).port .P).link.buffer.length ∧
    [0#8, 0#8] ≠ checkBytes (0x31#8 :: []) ∧
    (((busy []).port .P).link.tx = some { cmd := 0xB1#8, result := .ok, payload := [], restarts := false } ∧
      ((busy []).port .P).link.buffer = []) ∧
    ((receiving (.length [])).port .P).link.rx = .length [] ∧ (0x33#8).toNat > 0x32 ∧ (0#8).toNat = 0 := by
  decide +kernel

end Sys2Proof.Tests
end

section
/-! PROOFS. The temperature estimates (R39 to R42): the rounded division of 00_scope 4.2, the speed of sound, and what
one computation makes of T_z and c. -/

namespace Sys2Proof.Machine

/-! ### Rounded divisions (00_scope 4.2) -/

theorem roundUp_bounds {lo hi n : Int} {d : Nat} (hd : 0 < d) (hlo : lo * d ≤ n) (hhi : n ≤ hi * d) :
    lo ≤ roundUp n d ∧ roundUp n d ≤ hi := by
  have h2 : (0 : Int) < 2 * d := by omega
  constructor
  · exact (Int.le_ediv_iff_mul_le h2).mpr (by linarith)
  · exact Int.lt_add_one_iff.mp ((Int.ediv_lt_iff_lt_mul h2).mpr (by linarith))

/-- A quotient between two whole numbers stays between them when it is rounded. -/
theorem roundAway_bounds {lo hi n : Int} {d : Nat} (hd : 0 < d) (hlo : lo * d ≤ n) (hhi : n ≤ hi * d) :
    lo ≤ roundAway n d ∧ roundAway n d ≤ hi := by
  unfold roundAway
  split
  · exact roundUp_bounds hd hlo hhi
  · obtain ⟨h, k⟩ := roundUp_bounds (lo := -hi) (hi := -lo) (n := -n) hd (by linarith) (by linarith)
    omega

theorem inRange_iff {lo hi x : Int} : inRange lo hi x = true ↔ lo ≤ x ∧ x ≤ hi := decide_eq_true_iff

theorem limit_inRange {lo hi : Int} (h : lo ≤ hi) (x : Int) : inRange lo hi (limit lo hi x) = true := by
  rw [inRange_iff, limit]
  omega

/-! ### The speed of sound (R42) -/

theorem soundSpeed_of_nonneg {t : Int} (h : 0 ≤ t) : soundSpeed t = 331300 + (2 * (606 * t) + 16) / 32 := by
  have k : 0 ≤ 606 * t := by omega
  simp [soundSpeed, roundAway, roundUp, Config.soundBase, k]

/-- Below 0 °C the division is rounded on the magnitude, so that its ties go away from zero. -/
theorem soundSpeed_of_nonpos {t : Int} (h : t ≤ 0) : soundSpeed t = 331300 - (2 * (606 * (-t)) + 16) / 32 := by
  rcases h.eq_or_lt with rfl | h
  · decide
  · have k : ¬ 0 ≤ 606 * t := by omega
    have e : -(606 * t) = 606 * -t := by omega
    simp only [soundSpeed, roundAway, roundUp, Config.soundBase, if_neg k, e]
    omega

theorem soundSpeed_succ (t : Int) :
    soundSpeed (t + 1) - soundSpeed t = 37 ∨ soundSpeed (t + 1) - soundSpeed t = 38 := by
  rcases lt_or_ge t 0 with h | h
  · rw [soundSpeed_of_nonpos (by omega : t + 1 ≤ 0), soundSpeed_of_nonpos (by omega : t ≤ 0)]
    omega
  · rw [soundSpeed_of_nonneg (by omega : 0 ≤ t + 1), soundSpeed_of_nonneg h]
    omega

/-- From −40 °C to 60 °C the speed of sound lies in 307,060 to 367,660. -/
theorem soundSpeed_inRange {t : Int} (h : inRange (-640) 960 t = true) :
    inRange 307060 367660 (soundSpeed t) = true := by
  obtain ⟨lo, hi⟩ := inRange_iff.mp h
  have k := roundAway_bounds (lo := -24240) (hi := 36360) (n := 606 * t) (d := 16) (by decide) (by omega) (by omega)
  rw [inRange_iff, soundSpeed, Config.soundBase]
  omega

/-! ### The invariant by its parts -/

/-- The last accepted reading and the manual value of a record lie in −640 to +960 (R78, R88). -/
def SensorRecord.Measured (r : SensorRecord) : Prop :=
  r.lastAccepted.all (inRange (-640) 960) = true ∧ ∀ v, r.status = .manual v → inRange (-640) 960 v = true

/-- The speed of sound lies in its range, and T_z, where there is one, in its own and gives the speed of sound (R42). -/
def TargetState.Estimated (x : TargetState) : Prop :=
  inRange 307060 367660 x.c = true ∧ ∀ t, x.tz = some t → inRange (-640) 960 t = true ∧ x.c = soundSpeed t

theorem estimateInv_iff (s : State) :
    EstimateInv s ↔ (∀ n, (s.sensor n).Measured) ∧ inRange (-640) 960 s.settings.tRef = true ∧
      ∀ z, (s.zone z).target.Estimated := Iff.rfl

/-- A slot that is not MANUAL and has no accepted reading. -/
theorem SensorRecord.measured_of_none {r : SensorRecord} (h : r.lastAccepted = none) (k : r.status.isManual = false) :
    r.Measured :=
  ⟨by rw [h]; rfl, fun v e => by rw [e] at k; cases k⟩

theorem SensorRecord.Measured.usable {r : SensorRecord} (h : r.Measured) {t : Int} (k : r.usable = some t) :
    -640 ≤ t ∧ t ≤ 960 := by
  obtain ⟨last, manual⟩ := h
  unfold SensorRecord.usable at k
  split at k
  case h_1 => rw [k] at last; exact inRange_iff.mp last
  case h_2 v e => cases k; exact inRange_iff.mp (manual _ e)
  case h_3 | h_4 | h_5 | h_6 => cases k

/-- A speed of sound formed from T_z where there is one, and kept where there is none. -/
theorem TargetState.estimated_of_formed {x : TargetState} {c : Int} (hc : x.c = (x.tz.map soundSpeed).getD c)
    (old : inRange 307060 367660 c = true) (ht : ∀ t, x.tz = some t → inRange (-640) 960 t = true) : x.Estimated := by
  cases e : x.tz with
  | none =>
    rw [e] at hc
    exact ⟨hc ▸ old, fun t k => by rw [e] at k; cases k⟩
  | some t =>
    rw [e] at hc
    have k := ht t e
    exact ⟨hc ▸ soundSpeed_inRange k, fun u hu => by rw [e] at hu; cases hu; exact ⟨k, hc⟩⟩

/-! ### The weighted mean (R39) -/

/-- The sum of the weighted readings lies between −640 and +960 times the sum of the weights. -/
theorem weightedSums_bounds (r : ZoneRecord) {sensors : Vector SensorRecord 8} (h : ∀ n : Fin 8, sensors[n].Measured) :
    -640 * (weightedSums r sensors).1 ≤ (weightedSums r sensors).2 ∧
      (weightedSums r sensors).2 ≤ 960 * (weightedSums r sensors).1 := by
  unfold weightedSums
  refine List.foldlRecOn (motive := fun x : Nat × Int => -640 * (x.1 : Int) ≤ x.2 ∧ x.2 ≤ 960 * x.1) allSlots _
    ⟨by decide, by decide⟩ fun x hx n _ => ?_
  obtain ⟨w, wt⟩ := x
  dsimp only
  split
  · next t e =>
    obtain ⟨lo, hi⟩ := (h n).usable e
    have wn : (0 : Int) ≤ r.weights[n] := Int.natCast_nonneg _
    have klo := mul_le_mul_of_nonneg_left lo wn
    have khi := mul_le_mul_of_nonneg_left hi wn
    push_cast
    constructor <;> linarith [hx.1, hx.2]
  · exact hx

/-- T_z as a zone forms it from its own weights lies in −640 to +960 (R39, R40). -/
theorem ownEstimate_inRange (r : ZoneRecord) {x : TargetState} {tRef : Int} {sensors : Vector SensorRecord 8}
    (hs : ∀ n : Fin 8, sensors[n].Measured) (hr : inRange (-640) 960 tRef = true) (hx : x.Estimated) {t : Int}
    (h : (ownEstimate r x tRef sensors).1 = some t) : inRange (-640) 960 t = true := by
  have bounds := weightedSums_bounds r hs
  unfold ownEstimate at h
  split at h
  · split at h
    · cases e : x.tz with
      | none => rw [e] at h; cases h; exact hr
      | some u => rw [e] at h; cases h; exact (hx.2 _ e).1
    · next w wt hw e =>
      rw [e] at bounds
      cases h
      exact inRange_iff.mpr (roundAway_bounds (Nat.pos_of_ne_zero hw) bounds.1 bounds.2)
  · cases h
    exact hr

/-! ### One computation (R49) -/

/-- Every computation forms c from the T_z it forms, and keeps c where there is none (R42). -/
theorem formFields_c (s : State) (z : Zone) :
    (formFields s z).c = ((formFields s z).tz.map soundSpeed).getD (s.zone z).target.c := by
  cases h : s.ledBy z <;> simp only [formFields, h]

/-- T_z is the leader's at a follower of an enabled leader, and a zone's own elsewhere (R39, R41). -/
theorem formFields_tz (s : State) (z : Zone) :
    (formFields s z).tz = match s.ledBy z with
      | some k => (s.zone k.leader).target.tz
      | none => (ownEstimate (s.active z) (s.zone z).target s.settings.tRef s.temp.sensors).1 := by
  cases h : s.ledBy z <;> simp only [formFields, h]

theorem formFields_estimated {s : State} (h : EstimateInv s) (z : Zone) : (formFields s z).Estimated := by
  obtain ⟨sensors, tRef, zones⟩ := (estimateInv_iff s).mp h
  refine TargetState.estimated_of_formed (formFields_c s z) (zones z).1 fun t ht => ?_
  rw [formFields_tz] at ht
  split at ht
  · next k _ => exact ((zones k.leader).2 t ht).1
  · exact ownEstimate_inRange _ sensors tRef (zones z) ht

@[simp] theorem settleTarget_tz (cls : ComputationClass) (b : Bool) (n : Nat) (x : TargetState) :
    (settleTarget cls b n x).1.tz = x.tz := by
  unfold settleTarget
  (repeat' split) <;> rfl

@[simp] theorem settleTarget_c (cls : ComputationClass) (b : Bool) (n : Nat) (x : TargetState) :
    (settleTarget cls b n x).1.c = x.c := by
  unfold settleTarget
  (repeat' split) <;> rfl

/-- A computation of a zone writes that zone's target fields alone. -/
theorem computeOne_target (cls : ComputationClass) (z y : Zone) (s : State) :
    ((computeOne cls z s).zone y).target =
      if y = z then (settleTarget cls (s.active z).enabled s.settings.deadband (formFields s z)).1
      else (s.zone y).target := by
  have held := fun x => (raiseHeld_only (s.updTarget z fun _ => x) z (s.zone z).target x).same .target (by decide) y
  have clamped := fun u x => (raiseClamped_only u z x).same .target (by decide) y
  have written : ∀ x, ((s.updTarget z fun _ => x).zone y).target = if y = z then x else (s.zone y).target := by
    intro x
    rw [State.updTarget, State.zone_updZone]
    split <;> rfl
  simp only [computeOne]
  split
  · rw [← clamped, ← held, written]
  · rw [← held, written]

theorem computeOne_c {cls : ComputationClass} {z : Zone} {s : State} {t : Int}
    (h : ((computeOne cls z s).zone z).target.tz = some t) :
    ((computeOne cls z s).zone z).target.c = soundSpeed t := by
  rw [computeOne_target, if_pos rfl, settleTarget_tz] at h
  rw [computeOne_target, if_pos rfl, settleTarget_c, formFields_c, h]
  rfl

theorem computeOne_estimates (cls : ComputationClass) (z : Zone) {s : State} (h : EstimateInv s) :
    EstimateInv (computeOne cls z s) := by
  have frame := computeOne_only cls z s
  obtain ⟨sensors, tRef, zones⟩ := (estimateInv_iff s).mp h
  have temp : s.temp = (computeOne cls z s).temp := frame.same .temp (by decide)
  have settings : s.settings = (computeOne cls z s).settings := frame.same .settings (by decide)
  refine ⟨fun n => ?_, settings ▸ tRef, fun y => ?_⟩
  · rw [State.sensor, ← temp]
    exact sensors n
  · rw [computeOne_target]
    split
    · simpa [TargetState.Estimated] using formFields_estimated h z
    · exact zones y

end Sys2Proof.Machine
end

section
/-! PROOFS. What keeps the estimates in their ranges, operation by operation: a frame away from the targets, the
temperature unit and the settings; computations; sensor records; settings; resets and start-up. -/

namespace Sys2Proof.Machine

/-! ### Frames -/

/-- The parts that no temperature, speed of sound or reference temperature stands in. -/
def Part.unestimated : List Part :=
  [.pending, .entry, .line, .eq, .gain, .route, .power, .queue, .mem, .eqWait, .history, .probe, .store, .ports,
    .supervision, .lastReset, .sampleIndex, .atMark, .tdmOut, .ampSent]

variable {s t : State}

/-- The estimates read the sensor records, T_ref and the targets, and nothing else. -/
theorem EstimateInv.congr (h : EstimateInv s) (sensors : s.temp.sensors = t.temp.sensors)
    (tRef : s.settings.tRef = t.settings.tRef) (zones : ∀ z, (s.zone z).target = (t.zone z).target) :
    EstimateInv t := by
  obtain ⟨hs, hr, hz⟩ := (estimateInv_iff s).mp h
  refine ⟨fun n => ?_, tRef ▸ hr, fun z => zones z ▸ hz z⟩
  rw [State.sensor, ← sensors]
  exact hs n

/-- A change of other parts keeps the estimates. -/
theorem EstimateInv.frame {l : List Part} (h : EstimateInv s) (k : Only l s t)
    (hl : Part.among l Part.unestimated = true := by rfl) : EstimateInv t := by
  have w := k.mono hl
  exact h.congr (congrArg TempUnit.sensors (w.same .temp (by decide)))
    (congrArg Settings.tRef (w.same .settings (by decide))) (w.same .target (by decide))

theorem EstimateInv.answer (h : EstimateInv s) (p : Port) (code : Nat) (r : Result) (b : List Byte) :
    EstimateInv (s.answer p code r b) :=
  h.frame (answer_only ..)

theorem ite_estimates {c : Prop} [Decidable c] (h : EstimateInv s) (k : EstimateInv t) :
    EstimateInv (if c then s else t) := by
  split
  · exact h
  · exact k

theorem guarded_estimates (h : EstimateInv s) {p : Port} {code : Nat} {b : Bool} {f : State → State}
    (hf : EstimateInv (f s)) : EstimateInv (guarded s p code b f) :=
  ite_estimates (h.answer ..) (ite_estimates hf (h.answer ..))

theorem checked_estimates {α : Type} (h : EstimateInv s) {p : Port} {code : Nat} {v : Option α} {f : α → State}
    (hf : ∀ a, EstimateInv (f a)) : EstimateInv (checked s p code v f) := by
  cases v with
  | none => exact h.answer ..
  | some a => exact hf a

/-! ### Computations and notices (R9, R12, R50 to R52, R55) -/

theorem compute_estimates (cls : ComputationClass) (b : Bool) (z : Zone) (h : EstimateInv s) :
    EstimateInv (compute cls b z s) := by
  have k := computeOne_estimates cls z h
  exact ite_estimates (State.eachOf_keeps _ _ (fun z _ => computeOne_estimates .record z) _ k) k

theorem targetNotice_estimates (z : Zone) (g : List FieldGroup) (h : EstimateInv s) :
    EstimateInv (targetNotice z g s) :=
  ite_estimates (compute_estimates _ _ z h) (ite_estimates (compute_estimates _ _ z h) h)

theorem sensorNotice_estimates (n : Fin 8) (h : EstimateInv s) : EstimateInv (sensorNotice n s) :=
  ite_estimates h (State.eachZone_keeps _ (fun z _ k => ite_estimates (compute_estimates _ _ z k) k) s h)

theorem tRefChanged_estimates (h : EstimateInv s) : EstimateInv (tRefChanged s) :=
  State.eachZone_keeps _ (fun z _ k => ite_estimates (compute_estimates _ _ z k) k) s h

theorem changeNotice_estimates (z : Zone) (g : List FieldGroup) (r : ZoneRecord) (h : EstimateInv s) :
    EstimateInv (changeNotice z g r s) :=
  (targetNotice_estimates z g h).frame (eqNotice_only ..)

theorem transferWork_estimates (h : EstimateInv s) : EstimateInv (transferWork s) :=
  State.eachZone_keeps _ (fun z _ k => ite_estimates (changeNotice_estimates z _ _ k) k) _
    (h.frame (Only.eachZone _ (fun z s => updEntry_only s z transferEntry) s))

theorem directWrite_estimates (z : Zone) (g : FieldGroup) (f : ZoneRecord → ZoneRecord) (h : EstimateInv s) :
    EstimateInv (directWrite z g f s) :=
  changeNotice_estimates z _ _ (h.frame (writeBoth_only ..))

theorem enableZone_estimates (z : Zone) (h : EstimateInv s) : EstimateInv (enableZone z s) :=
  (((((directWrite_estimates z .enable _ h).frame (clearLine_only z _)).frame (updLine_only _ z _)).frame
    (eqSetUp_only z _)).frame (updRoute_only _ z _)).frame (setPower_only z .parked _)

theorem disableZone_estimates (z : Zone) (h : EstimateInv s) : EstimateInv (disableZone z s) := by
  have k := h.frame (updRoute_only s z fun r => { r with entries := [], fade := .atRest none })
  exact ((((directWrite_estimates z .enable _ ((ite_estimates (k.frame (probeRemoved_only ..)) k).frame
    (setPower_only z .disabled _))).frame (updLine_only _ z _)).frame (raiseLost_only ..)).frame (raiseLost_only ..))

/-! ### Sensor records (R79 to R89, R93) -/

theorem State.sensor_updSensor (s : State) (m n : Fin 8) (f : SensorRecord → SensorRecord) :
    (s.updSensor n f).sensor m = if m = n then f (s.sensor n) else s.sensor m := by
  split
  · next e => subst e; simp [State.sensor, State.updSensor]
  · next e =>
    have k : n.val ≠ m.val := fun q => e (Fin.ext q.symm)
    simp [State.sensor, State.updSensor, k]

theorem EstimateInv.updSensor (h : EstimateInv s) (n : Fin 8) {f : SensorRecord → SensorRecord}
    (hf : (s.sensor n).Measured → (f (s.sensor n)).Measured) : EstimateInv (s.updSensor n f) := by
  obtain ⟨sensors, tRef, zones⟩ := (estimateInv_iff s).mp h
  refine (estimateInv_iff _).mpr ⟨fun m => ?_, tRef, zones⟩
  rw [State.sensor_updSensor]
  split
  · exact hf (sensors n)
  · exact sensors m

/-- A state that is not MANUAL, with the reading kept, keeps a record in its ranges. -/
theorem SensorRecord.Measured.restated {r r' : SensorRecord} (h : r.Measured) (last : r'.lastAccepted = r.lastAccepted)
    (status : r'.status = r.status ∨ r'.status.isManual = false) : r'.Measured := by
  refine ⟨last ▸ h.1, fun v e => ?_⟩
  rcases status with k | k
  · exact h.2 v (k ▸ e)
  · rw [e] at k; cases k

theorem acceptReading_estimates (n : Fin 8) {v : Int} (hv : inRange (-640) 960 v = true) (h : EstimateInv s) :
    EstimateInv (acceptReading n v s) := by
  have k := h.updSensor n (f := fun r =>
    { r with status := .valid, lastAccepted := some v, failures := 0, framesSince := 0, fresh := s.atMark })
    fun _ => ⟨hv, fun _ e => by cases e⟩
  exact sensorNotice_estimates n (ite_estimates (k.frame (raise_only ..)) k)

theorem countFailure_estimates (n : Fin 8) (f : Failure) (h : EstimateInv s) : EstimateInv (countFailure n f s) := by
  have k : EstimateInv (s.updSensor n fun r =>
      { r with
        failures := min ((s.sensor n).failures + 1) 3, lastFailure := some f,
        status := if min ((s.sensor n).failures + 1) 3 = 3 ∧ (s.sensor n).status ≠ .fault then .fault
          else r.status }) :=
    h.updSensor n fun m => m.restated rfl (by dsimp only; split; exacts [.inr rfl, .inl rfl])
  have raised := k.frame (raise_only _ .C (.sensorFault n f.kind))
  exact ite_estimates (ite_estimates (sensorNotice_estimates n raised) raised) k

/-- A reading that is accepted lies in −640 to +960 (R78). -/
theorem judge_accepted {r : SensorRecord} {n : Nat} {bus : BusOutcome} {v : Int}
    (h : judge r n bus = .accepted v) : inRange (-640) 960 v = true := by
  unfold judge at h
  split at h
  · cases h
  · cases h
  · dsimp only at h
    split at h
    · next k =>
      split at h
      · cases h
      · cases h; exact k
    · cases h

theorem judged_estimates (n : Fin 8) (r : SensorRecord) (limit : Nat) (bus : BusOutcome) (h : EstimateInv s) :
    EstimateInv (applyOutcome n (judge r limit bus) s) := by
  unfold applyOutcome
  split
  · next e => exact acceptReading_estimates n (judge_accepted e) h
  · exact countFailure_estimates n _ h

theorem becomeStale_estimates (n : Fin 8) (h : EstimateInv s) : EstimateInv (becomeStale n s) :=
  sensorNotice_estimates n (h.updSensor n fun m => m.restated rfl (.inr rfl))

theorem setRound_estimates (r : Option Round) (h : EstimateInv s) : EstimateInv (s.setRound r) :=
  h.congr rfl rfl fun _ => rfl

theorem roundOn_estimates (n : Nat) (l : List (Fin 8)) (h : EstimateInv s) : EstimateInv (roundOn n l s) := by
  unfold roundOn
  split <;> exact setRound_estimates _ h

theorem startRound_estimates (h : EstimateInv s) : EstimateInv (startRound s) := roundOn_estimates _ _ h

theorem loadTimer_estimates (h : EstimateInv s) : EstimateInv (loadTimer s) := h.congr rfl rfl fun _ => rfl

theorem pollExpiry_estimates (h : EstimateInv s) : EstimateInv (pollExpiry s) :=
  ite_estimates (startRound_estimates (loadTimer_estimates h)) (loadTimer_estimates h)

theorem voidIfInFlight_estimates (n : Fin 8) (h : EstimateInv s) : EstimateInv (voidIfInFlight n s) := by
  unfold voidIfInFlight
  split
  · exact ite_estimates (setRound_estimates _ h) h
  · exact h

theorem noticeIfLeft_estimates (n : Fin 8) (b : SensorStatus) (h : EstimateInv s) :
    EstimateInv (noticeIfLeft n b s) :=
  ite_estimates (sensorNotice_estimates n h) h

theorem setupStatus_cases (a b : SensorFields) (x : SensorStatus) :
    setupStatus a b x = x ∨ (setupStatus a b x).isManual = false := by
  unfold setupStatus
  split
  · exact .inl rfl
  · exact .inr rfl
  · exact .inr rfl
  · split
    · exact .inl rfl
    · split
      · exact .inl rfl
      · exact .inr rfl

/-- SENSOR_SETUP forgets the reading of a slot it changes, and gives it no manual value it did not have (R87). -/
theorem setupRecord_measured (a b : SensorFields) {r : SensorRecord} (h : r.Measured) :
    (setupRecord a b r).Measured := by
  unfold setupRecord
  split
  · exact h
  · refine ⟨rfl, fun v e => ?_⟩
    rcases setupStatus_cases a b r.status with k | k
    · exact h.2 v (k ▸ e)
    · rw [show setupStatus a b r.status = .manual v from e] at k; cases k

theorem setupSlot_estimates (n : Fin 8) (f : SensorFields) (h : EstimateInv s) : EstimateInv (setupSlot n f s) :=
  (h.updSensor n (setupRecord_measured (s.sensorFields n) f)).congr rfl rfl fun _ => rfl

theorem autoRecord_measured (b : Bool) {r : SensorRecord} (h : r.Measured) : (autoRecord b r).Measured := by
  unfold autoRecord
  split
  · exact h
  · exact h.restated rfl (.inr (by cases b <;> rfl))

theorem restartRecord_measured (a b : SensorFields) {r : SensorRecord} (h : r.Measured) :
    (restartRecord a b r).Measured := by
  unfold restartRecord
  split
  · exact h
  · exact (setupRecord_measured a b h).restated rfl (.inr (by cases b.enabled <;> rfl))

theorem SensorRecord.tick_measured {r : SensorRecord} (h : r.Measured) : r.tick.Measured := by
  unfold SensorRecord.tick
  split <;> exact h

/-! ### Settings (R175, R191) -/

theorem settingsFrom_tRef (l : Vector Sector 41) : inRange (-640) 960 (settingsFrom l).tRef = true := by
  unfold settingsFrom
  split
  · split
    · exact limit_inRange (by decide) _
    · decide
    · decide
    · decide
    · decide
  · decide

theorem applySettings_estimates {x : Settings} (hx : inRange (-640) 960 x.tRef = true) (h : EstimateInv s) :
    EstimateInv (applySettings x s) := by
  obtain ⟨sensors, -, zones⟩ := (estimateInv_iff s).mp h
  have k : EstimateInv { s with settings := x, queue := lowerBypass x.bypassMax s.queue } := ⟨sensors, hx, zones⟩
  exact ite_estimates k (tRefChanged_estimates k)

/-! ### Resets and start-up (R16, R57, R92, R93, R175, R177) -/

/-- A reset has no T_z, the speed of sound of 0 °C, and a T_ref that is limited; the sensor records are its own. -/
theorem afterReset_estimates {temp : TempUnit} (h : ∀ n : Fin 8, temp.sensors[n].Measured) (pending : List Instr)
    (sectors : Vector Sector 41) (kind : ResetKind) (k : Nat) (amp : Vector Bool 32) :
    EstimateInv (afterReset pending sectors temp kind k amp) := by
  have zones : ∀ z : Zone, ((afterReset pending sectors temp kind k amp).zone z).target = TargetState.initial := by
    intro z
    simp [afterReset, State.zone, State.reset, ZoneState.initial]
  refine (estimateInv_iff _).mpr ⟨h, settingsFrom_tRef (scan sectors), fun z => ?_⟩
  rw [zones]
  exact ⟨by decide, fun t e => by cases e⟩

theorem SensorRecord.initial_measured (b : Bool) : (SensorRecord.initial b).Measured :=
  SensorRecord.measured_of_none rfl (by cases b <;> rfl)

theorem coldTemp_measured (x : Settings) (n : Fin 8) : (coldTemp x).sensors[n].Measured := by
  simpa [coldTemp] using SensorRecord.initial_measured _

theorem restartEvent_estimates (p : Port) (h : EstimateInv s) : EstimateInv (restartEvent p s) := by
  obtain ⟨sensors, -, -⟩ := (estimateInv_iff s).mp h
  exact afterReset_estimates
    (fun n => by simpa [restartTemp, State.sensor] using restartRecord_measured _ _ (sensors n)) ..

theorem loadZone_only (z : Zone) (s : State) : Only [.entry] s (loadZone z s) := by
  unfold loadZone
  exact updEntry_only ..

theorem applySceneZero_only (z : Zone) (s : State) : Only [.entry] s (applySceneZero z s) := by
  unfold applySceneZero
  dsimp only
  split
  · exact writeBoth_only ..
  · exact Only.refl ..

theorem comeUp_only (z : Zone) (s : State) : Only [.power] s (comeUp z s) :=
  Only.ite _ (Only.refl ..) (updPower_only ..)

theorem lineUp_only (z : Zone) (s : State) : Only [.line, .mem] s (lineUp z s) := by
  have h := (updLine_only s z fun l => { l with dCur := (s.zone z).target.tgt }).mono (m := [.line, .mem]) rfl
  exact Only.ite _ (h.trans (clearLine_only z _)) h

theorem startUp_estimates (h : EstimateInv s) : EstimateInv (startUp s) := by
  have loaded := ((h.frame (Only.eachZone _ loadZone_only _)).frame (Only.eachZone _ applySceneZero_only _)).frame
    (Only.eachZone _ comeUp_only _)
  have computed := State.eachZone_keeps _ (fun z _ => compute_estimates .record false z) _ loaded
  have raised := fun d => ((computed.frame (Only.eachZone _ lineUp_only _)).frame
    (Only.eachZone _ eqSetUp_only _)).frame (raiseAll_only _ [.P, .V, .C] d)
  exact startRound_estimates (loadTimer_estimates ((raised _).frame (updStore_only ..)))

end Sys2Proof.Machine
end

section
/-! PROOFS. Every command, every other row and so every step keeps the estimates in their ranges; with it the
statement of R42. -/

namespace Sys2Proof.Machine

/-! ### Answers that leave a property -/

/-- Where the answer is a next state, the property holds of it. -/
def Leaves (P : State → Prop) (o : Answer) : Prop := ∀ t, o = .next t → P t

theorem Leaves.next {P : State → Prop} {s : State} (h : P s) : Leaves P (.next s) := fun _ e => by
  cases e
  exact h

theorem Leaves.andThen {P : State → Prop} {o : Answer} {f : State → Answer} (h : Leaves P o)
    (k : ∀ s, P s → Leaves P (f s)) : Leaves P (Machine.andThen o f) := by
  cases o with
  | next s => exact k s (h s rfl)
  | fault _ => intro _ e; cases e
  | refused _ => intro _ e; cases e

variable {s : State}

/-! ### The audio clock -/

theorem takeIf_estimates {f : State → State} (b : Bool) (hf : EstimateInv s → EstimateInv (f s)) (h : EstimateInv s) :
    EstimateInv (takeIf b f s) :=
  ite_estimates (hf h) h

theorem foldl_estimates {α : Type} {f : State → α → State} (hf : ∀ s a, EstimateInv s → EstimateInv (f s a))
    (l : List α) (h : EstimateInv s) : EstimateInv (l.foldl f s) :=
  List.foldlRecOn l f h fun s k a _ => hf s a k

theorem settle_estimates (h : EstimateInv s) : EstimateInv (settle s) := by
  unfold settle
  refine .frame ?_ (periodOpen_only _)
  refine .frame ?_ (takeIf_only _ _ (periodEnd_only 0 _))
  refine .frame ?_ (takeIf_only _ _ (closeWindow_only _))
  refine .frame ?_ (takeIf_only _ _ (completeHand_only _))
  refine .frame ?_ (Only.eachZone _ (fun z s => takeIf_only _ s (drainFinish_only z s)) _)
  refine .frame ?_ (Only.eachZone _ (fun z s => takeIf_only _ s (wakeFinish_only z s)) _)
  refine takeIf_estimates _ pollExpiry_estimates (.frame ?_ (takeIf_only _ _ (supervisionExpire_only _)))
  exact foldl_estimates (fun _ n => takeIf_estimates _ (becomeStale_estimates n)) allSlots h

/-- The counters of a frame mark: of a sensor record they leave the state and the last accepted reading. -/
theorem tick_estimates (h : EstimateInv s) : EstimateInv (tick s) := by
  obtain ⟨sensors, tRef, zones⟩ := (estimateInv_iff s).mp h
  have frame := tick_only s
  have temp : s.temp.tick = (tick s).temp := congrArg TempUnit.tick
    ((Only.eachZone (l := [.power]) _ (fun z s => updPower_only s z PowerUnit.tick) s).same .temp (by decide))
  refine (estimateInv_iff _).mpr ⟨fun n => ?_, ?_, fun z => ?_⟩
  · rw [State.sensor, ← temp]
    simpa [TempUnit.tick, State.sensor] using SensorRecord.tick_measured (sensors n)
  · rw [← frame.same .settings (by decide)]; exact tRef
  · rw [← frame.same .target (by decide) z]; exact zones z

theorem doWork_estimates (w : MarkWork) (h : EstimateInv s) : EstimateInv (doWork w s) := by
  cases w with
  | transfer => exact transferWork_estimates h
  | slew => exact h.frame (slewWork_only s)
  | limiter => exact (h.frame (limiterWork_only s)).frame (probeTest_only _)
  | gain => exact h.frame (Only.eachZone _ gainZone_only s)
  | probe => exact h.frame (probeWork_only s)
  | amplifier => exact h.frame (ampSent_only s _)

theorem execFrameMark_estimates (order : List MarkWork) (h : EstimateInv s) :
    Leaves EstimateInv (execFrameMark order s) :=
  .next (foldl_estimates (fun _ w => doWork_estimates w) _ (tick_estimates (settle_estimates h)))

theorem execSamplePeriod_estimates (inputs : Vector Sample 8) (h : EstimateInv s) :
    Leaves EstimateInv (execSamplePeriod inputs s) := by
  unfold execSamplePeriod
  dsimp only
  split
  · intro _ e; cases e
  · exact .next (((settle_estimates h).frame (settleSamples_only _)).frame (samplePeriod_only inputs _))

/-! ### The commands of the links (R189) -/

theorem writeCommand_estimates {p : Port} {c : WriteCommand} {b : Bool} {n : Option SectorNo} {m : Bool} {x : Contents}
    (h : EstimateInv s) : Leaves EstimateInv (.next (writeCommand p c b n m x s)) :=
  .next (h.frame (writeCommand_only ..))

theorem takeAllocate_estimates (p : Port) (zone : Nat) (a : Option AllocArg) (h : EstimateInv s) :
    Leaves EstimateInv (takeAllocate p zone a s) :=
  .next (guarded_estimates h (checked_estimates h fun z => checked_estimates h fun a => by
    split
    · exact h.answer ..
    · split
      · exact h.answer ..
      · exact (directWrite_estimates z _ _ h).answer ..))

theorem takeSensorSetup_estimates (p : Port) (slot : Nat) (e : Choice) (a : Nat) (h : EstimateInv s) :
    Leaves EstimateInv (takeSensorSetup p slot e a s) :=
  .next (guarded_estimates h (checked_estimates h fun n => checked_estimates h fun _ => checked_estimates h fun _ =>
    (noticeIfLeft_estimates n _ (setupSlot_estimates n _ (voidIfInFlight_estimates n h))).answer ..))

theorem takeSensorManual_estimates (p : Port) (slot : Nat) (v : Int) (h : EstimateInv s) :
    Leaves EstimateInv (takeSensorManual p slot v s) :=
  .next (guarded_estimates h (checked_estimates h fun n =>
    (sensorNotice_estimates n ((voidIfInFlight_estimates n h).updSensor n fun m =>
      ⟨m.1, fun _ e => by cases e; exact limit_inRange (by decide) v⟩)).answer ..))

theorem takeSensorAuto_estimates (p : Port) (slot : Nat) (h : EstimateInv s) :
    Leaves EstimateInv (takeSensorAuto p slot s) :=
  .next (guarded_estimates h (checked_estimates h fun n =>
    (noticeIfLeft_estimates n _ ((voidIfInFlight_estimates n h).updSensor n (autoRecord_measured _))).answer ..))

theorem takeEnableZone_estimates (p : Port) (zone : Nat) (h : EstimateInv s) :
    Leaves EstimateInv (takeEnableZone p zone s) :=
  .next (guarded_estimates h (checked_estimates h fun z =>
    ite_estimates (h.answer ..) (ite_estimates (h.answer ..) ((enableZone_estimates z h).answer ..))))

theorem takeDisableZone_estimates (p : Port) (zone : Nat) (h : EstimateInv s) :
    Leaves EstimateInv (takeDisableZone p zone s) :=
  .next (guarded_estimates h (checked_estimates h fun z =>
    ite_estimates (h.answer ..) (ite_estimates (h.answer ..) ((disableZone_estimates z h).answer ..))))

theorem takeSetSystem_estimates (p : Port) (a : SystemArg) (h : EstimateInv s) :
    Leaves EstimateInv (takeSetSystem p a s) :=
  .next (guarded_estimates h ((applySettings_estimates (limit_inRange (by decide) _) h).answer ..))

theorem takeRouteRaise_estimates (p : Port) (zones : List Nat) (source level : Nat) (h : EstimateInv s) :
    Leaves EstimateInv (takeRouteRaise p zones source level s) :=
  .next (guarded_estimates h (checked_estimates h fun _ => checked_estimates h fun _ => ite_estimates (h.answer ..)
    ((h.frame (overZones_only _ (raiseIn_only _) _ _)).answer ..)))

theorem takeRouteDrop_estimates (p : Port) (zones : List Nat) (source : Nat) (h : EstimateInv s) :
    Leaves EstimateInv (takeRouteDrop p zones source s) :=
  .next (guarded_estimates h (checked_estimates h fun _ => checked_estimates h fun src =>
    (h.frame (overZones_only _ (dropIn_only p src) _ _)).answer ..))

theorem takeRouteDropAll_estimates (p : Port) (h : EstimateInv s) : Leaves EstimateInv (takeRouteDropAll p s) := by
  have k := h.frame (overZones_only (dropAllIn p) (dropAllIn_only p) allZones s)
  refine .next (guarded_estimates h ?_)
  generalize overZones (dropAllIn p) allZones s = x at k ⊢
  exact k.answer ..

theorem takeProbeRun_estimates (p : Port) (e : Option Choice) (h : EstimateInv s) :
    Leaves EstimateInv (takeProbeRun p e s) :=
  .next (guarded_estimates h (checked_estimates h fun edge => by
    have copied : ∀ b, EstimateInv (if runCopies b then copySettings s else s) := fun b =>
      ite_estimates (h.frame (copySettings_only s)) h
    refine ite_estimates (h.answer ..) (ite_estimates (h.answer ..) ?_)
    split
    · exact (h.frame (updProbe_only s _)).answer ..
    · dsimp only
      split
      · exact (copied _).answer ..
      · exact ((copied _).frame (probeBegin_only ..)).answer ..))

theorem takeProbeAdopt_estimates (p : Port) (zone : Nat) (h : EstimateInv s) :
    Leaves EstimateInv (takeProbeAdopt p zone s) :=
  .next (guarded_estimates h (checked_estimates h fun z => by
    split
    · exact h.answer ..
    · exact ite_estimates (h.answer ..) (ite_estimates (h.answer ..) (h.frame (acceptChange_only ..)))))

theorem takeRecallScene_estimates (p : Port) (n : Nat) (h : EstimateInv s) :
    Leaves EstimateInv (takeRecallScene p n s) :=
  .next (ite_estimates (h.answer ..) (checked_estimates h fun n => ite_estimates (h.answer ..) (by
    split
    · exact (h.frame (recallFailed_only p s)).answer ..
    · exact ((h.frame (updStore_only s _)).frame (serveRecall_only _)).answer ..)))

theorem takeNoteClear_estimates (p : Port) (kinds : List Nat) (h : EstimateInv s) :
    Leaves EstimateInv (takeNoteClear p kinds s) :=
  .next (guarded_estimates h (checked_estimates h fun ks =>
    (h.frame (Only.foldl _ (fun s k => updNote_only s p k NoteFlag.cleared) ks s)).answer ..))

theorem takeRestart_estimates (p : Port) (h : EstimateInv s) : Leaves EstimateInv (takeRestart p s) :=
  .next (guarded_estimates h (ite_estimates (h.answer ..) (h.frame (updLink_only s p _))))

theorem runCommand_estimates (i : Instr) (h : EstimateInv s) : Leaves EstimateInv (runCommand i s) := by
  cases i with
  | readRecord =>
    exact .next (guarded_estimates h (checked_estimates h fun _ => checked_estimates h fun _ => h.answer ..))
  | gain | eqSelect | geometry | coupling =>
    exact .next (guarded_estimates h (checked_estimates h fun _ => checked_estimates h fun _ =>
      h.frame (acceptChange_only ..)))
  | eqBank =>
    exact .next (guarded_estimates h (checked_estimates h fun _ => checked_estimates h fun _ =>
      checked_estimates h fun _ => h.frame (acceptChange_only ..)))
  | timing | evacGain =>
    exact .next (guarded_estimates h (checked_estimates h fun _ => h.frame (acceptChange_only ..)))
  | readQueue | readDelayMap | readSensors | readProbe | readStore | readSystem | noteRead | readStatus =>
    exact .next (guarded_estimates h (h.answer ..))
  | readTargets | readChain | readRoutes | readPower =>
    exact .next (guarded_estimates h (checked_estimates h fun _ => h.answer ..))
  | allocate p z a => exact takeAllocate_estimates p z a h
  | sensorSetup p n e a => exact takeSensorSetup_estimates p n e a h
  | sensorManual p n v => exact takeSensorManual_estimates p n v h
  | sensorAuto p n => exact takeSensorAuto_estimates p n h
  | clearClip =>
    exact .next (guarded_estimates h (checked_estimates h fun zs =>
      (h.frame (Only.eachOf zs _ (fun z s => updGain_only s z _) s)).answer ..))
  | routeRaise p l src lvl => exact takeRouteRaise_estimates p l src lvl h
  | routeDrop p l src => exact takeRouteDrop_estimates p l src h
  | routeDropAll p => exact takeRouteDropAll_estimates p h
  | enableZone p z => exact takeEnableZone_estimates p z h
  | disableZone p z => exact takeDisableZone_estimates p z h
  | probeSetup =>
    exact .next (guarded_estimates h (checked_estimates h fun _ => checked_estimates h fun _ =>
      checked_estimates h fun _ => (h.frame (updProbe_only s _)).answer ..))
  | probeRun p e => exact takeProbeRun_estimates p e h
  | probeStop => exact .next (guarded_estimates h ((h.frame (probeStopped_only s)).answer ..))
  | probeClear => exact .next (guarded_estimates h ((h.frame (updProbe_only s _)).answer ..))
  | probeAdopt p z => exact takeProbeAdopt_estimates p z h
  | eraseSector | storeZone | storeScene | storeSystem | lockZone => exact writeCommand_estimates h
  | recallScene p n => exact takeRecallScene_estimates p n h
  | clearStoreFaults | overrideLocks | lowerOverride =>
    exact .next (guarded_estimates h ((h.frame (updStore_only s _)).answer ..))
  | setSystem p a => exact takeSetSystem_estimates p a h
  | noteSetup p =>
    exact .next (guarded_estimates h (checked_estimates h fun k => checked_estimates h fun _ =>
      (h.frame (updNote_only s p k _)).answer ..))
  | noteClear p l => exact takeNoteClear_estimates p l h
  | supervise => exact .next (guarded_estimates h ((h.frame (superviseStart_only _ s)).answer ..))
  | superviseEnd => exact .next (guarded_estimates h ((h.frame (superviseStop_only s)).answer ..))
  | restart p => exact takeRestart_estimates p h
  | _ => exact .next h

/-! ### The links (R186 to R188, R193) -/

theorem answerUnknown_only (p : Port) (cmd : Byte) (s : State) : Only [.ports] s (answerUnknown p cmd s) := by
  unfold answerUnknown
  exact updLink_only ..

theorem answerMalformed_estimates (p : Port) (cmd : Byte) (h : EstimateInv s) :
    EstimateInv (answerMalformed p cmd s) :=
  (ite_estimates (h.frame (lowerOverride_only s)) h).answer ..

theorem carryOut_estimates (p : Port) (f : Frame) (h : EstimateInv s) : Leaves EstimateInv (carryOut p f s) := by
  unfold carryOut
  split
  · exact .next (h.frame (answerUnknown_only ..))
  · exact .next (answerMalformed_estimates p _ h)
  · exact runCommand_estimates _ h

theorem takeFrame_estimates (p : Port) (h : EstimateInv s) : Leaves EstimateInv (takeFrame p s) := by
  unfold takeFrame
  dsimp only
  split
  · exact carryOut_estimates p _ (h.frame (updLink_only s p _))
  · exact .next h

theorem discard_estimates (p : Port) (c : LinkCause) (h : EstimateInv s) : EstimateInv (discard p c s) :=
  (h.frame (updLink_only s p _)).frame (raise_only ..)

theorem setRx_estimates (p : Port) (r : Receiver) (h : EstimateInv s) : EstimateInv (setRx p r s) :=
  h.frame (updLink_only s p _)

theorem judgeFrame_estimates (p : Port) (h : EstimateInv s) : Leaves EstimateInv (judgeFrame p s) := by
  unfold judgeFrame
  split
  · split
    · unfold placeFrame
      split
      · exact takeFrame_estimates p (h.frame (updLink_only s p _))
      · exact .next (discard_estimates p _ h)
    · exact .next (discard_estimates p _ h)
  all_goals exact .next h

theorem readLinkByte_estimates (p : Port) (b : Byte) (stop : Bool) (h : EstimateInv s) :
    EstimateInv (readLinkByte p b stop s) := by
  have discarded := fun c => discard_estimates p c h
  have moved := fun r => setRx_estimates p r h
  unfold readLinkByte
  split
  · exact ite_estimates (moved _) h
  · exact ite_estimates (ite_estimates (moved _) (ite_estimates (moved _) (discarded _))) (discarded _)
  · exact ite_estimates (moved _) (discarded _)
  · exact ite_estimates (moved _) (discarded _)
  · exact h

theorem execLinkGap_estimates (p : Port) (h : EstimateInv s) : Leaves EstimateInv (execLinkGap p s) := by
  refine .next ?_
  split
  · exact h
  · exact h
  all_goals exact discard_estimates p _ h

theorem execResponseSent_estimates (p : Port) (h : EstimateInv s) : Leaves EstimateInv (execResponseSent p s) := by
  unfold execResponseSent
  split
  · exact .next h
  · split
    · exact .next (restartEvent_estimates p h)
    · exact takeFrame_estimates p (h.frame (updLink_only s p _))

/-! ### Rows (log entries 3 and 5) -/

theorem endResponses_estimates (p : Port) (n : Nat) (h : EstimateInv s) : Leaves EstimateInv (endResponses p n s) := by
  induction n generalizing s with
  | zero => exact .next h
  | succ n ih =>
    unfold endResponses
    split
    · exact .next h
    · exact (execResponseSent_estimates p h).andThen fun _ k => ih k

theorem atTurn_estimates (p : Port) {f : State → Answer} (hf : ∀ s, EstimateInv s → Leaves EstimateInv (f s))
    (h : EstimateInv s) : Leaves EstimateInv (atTurn p f s) :=
  (endResponses_estimates p _ h).andThen hf

/-- The row of a command carries the command out when its port's turn comes (R188). -/
theorem exec_command (i : Instr) (p : Port) (h : commandPort i = some p) : exec i s = atTurn p (runCommand i) s := by
  cases i <;> cases h <;> rfl

/-- An event of a frame mark, told after its FRAME_MARK or before it (log entry 5). -/
theorem told_estimates {f : State → State} (hf : ∀ s, EstimateInv s → EstimateInv (f s)) {c d : Prop} [Decidable c]
    [Decidable d] (h : EstimateInv s) :
    Leaves EstimateInv (.next (if c then f s else if d then f { s with atMark := true } else s)) :=
  .next (ite_estimates (hf s h) (ite_estimates (hf _ (h.frame (atMark_only s true))) h))

theorem execSensorTransactionEnd_estimates (bus : BusOutcome) (h : EstimateInv s) :
    Leaves EstimateInv (execSensorTransactionEnd bus s) := by
  refine .next ?_
  split
  · exact h
  · next r _ =>
    have k := judged_estimates r.slot (s.sensor r.slot) r.spikeLimit bus h
    exact ite_estimates (roundOn_estimates _ _ h)
      (ite_estimates (setRound_estimates _ k) (roundOn_estimates _ _ k))

theorem execTrigEdge_estimates (e : Edge) (h : EstimateInv s) : Leaves EstimateInv (execTrigEdge e s) := by
  refine .next ?_
  split
  · exact ite_estimates ((h.frame (copySettings_only s)).frame (probeStart_only ..)) h
  all_goals exact h

theorem execEraseComplete_estimates (b : Bool) (h : EstimateInv s) : Leaves EstimateInv (execEraseComplete b s) := by
  refine .next ?_
  split
  · exact ite_estimates (h.frame (erasePassed_only ..)) (h.frame (eraseFailed_only ..))
  · exact h

theorem execProgramComplete_estimates (b : Bool) (h : EstimateInv s) :
    Leaves EstimateInv (execProgramComplete b s) := by
  refine .next ?_
  split
  · exact ite_estimates (h.frame (programPassed_only ..)) (h.frame (programFailed_only ..))
  · exact h

theorem execLockComplete_estimates (b : Bool) (h : EstimateInv s) : Leaves EstimateInv (execLockComplete b s) := by
  refine .next ?_
  split
  · exact ite_estimates ((h.frame (updSector_only s _ _)).frame (endOperation_only ..)) (h.frame (endOperation_only ..))
  · exact h

theorem execSceneReadEnd_estimates (b : Bool) (h : EstimateInv s) : Leaves EstimateInv (execSceneReadEnd b s) := by
  refine .next ?_
  split
  · exact (h.frame (readEnd_only ..)).frame (storeGoOn_only _)
  · exact h

theorem exec_estimates (i : Instr) (h : EstimateInv s) : Leaves EstimateInv (exec i s) := by
  cases hp : commandPort i with
  | some p =>
    rw [exec_command i p hp]
    exact atTurn_estimates p (fun _ k => runCommand_estimates i k) h
  | none =>
    unfold exec
    cases i with
    | coldReset => exact .next (afterReset_estimates (coldTemp_measured _) ..)
    | startupDone => exact .next (ite_estimates (startUp_estimates h) h)
    | frameMark order => exact execFrameMark_estimates order h
    | samplePeriod inputs => exact execSamplePeriod_estimates inputs h
    | changeComplete => exact told_estimates (fun s k => k.frame (completeHand_only s)) h
    | wakeTimeElapsed z => exact told_estimates (fun s k => k.frame (wakeFinish_only z s)) h
    | drainTimeElapsed z => exact told_estimates (fun s k => k.frame (drainFinish_only z s)) h
    | fadeEnd z =>
      exact .next (ite_estimates ((ite_estimates (h.frame (atMark_only s true)) h).frame (fadeFinish_only z _)) h)
    | crossfadeEnd z => exact .next (ite_estimates (h.frame (crossfadeFinish_only z s)) h)
    | supervisionExpiry => exact told_estimates (fun s k => k.frame (supervisionExpire_only s)) h
    | pollTimerExpiry => exact told_estimates (fun _ k => pollExpiry_estimates k) h
    | sensorTransactionEnd bus => exact execSensorTransactionEnd_estimates bus h
    | sensorStale n => exact told_estimates (fun _ k => becomeStale_estimates n k) h
    | trigEdge e => exact execTrigEdge_estimates e h
    | periodOpen => exact .next (h.frame (periodOpen_only s))
    | windowClose => exact told_estimates (fun s k => k.frame (closeWindow_only s)) h
    | periodEnd =>
      exact .next (ite_estimates (h.frame (periodEnd_only 0 s))
        (ite_estimates ((h.frame (atMark_only s true)).frame (periodEnd_only 1 _)) h))
    | eraseComplete b => exact execEraseComplete_estimates b h
    | programComplete b => exact execProgramComplete_estimates b h
    | lockComplete b => exact execLockComplete_estimates b h
    | suspensionEvent => exact .next (ite_estimates (h.frame (storeGoOn_only s)) h)
    | sceneReadEnd b => exact execSceneReadEnd_estimates b h
    | frameReceived p => exact judgeFrame_estimates p h
    | linkGap p => exact execLinkGap_estimates p h
    | responseSent p => exact execResponseSent_estimates p h
    | unknownCommand p cmd =>
      show Leaves EstimateInv (execUnknownCommand p cmd s)
      unfold execUnknownCommand
      split
      · exact .next h
      · exact atTurn_estimates p (fun _ k => .next (k.frame (answerUnknown_only ..))) h
    | byteReceived p b stop =>
      exact (judgeFrame_estimates p h).andThen fun _ k => .next (readLinkByte_estimates p b stop k)
    | _ => cases hp

theorem pending_only (s : State) (l : List Instr) : Only [.pending] s { s with pending := l } :=
  Only.fields (by rintro ⟨⟩ hp <;> first | rfl | exact fun _ => rfl | simp at hp)

theorem estimateInv_kept : Kept EstimateInv := by
  intro s t h e
  unfold step at e
  split at e
  · next rest _ => exact exec_estimates _ (h.frame (pending_only s rest)) t e
  · exact Leaves.next h t e

/-- Settles O32: every computation forms c from its T_z by `formFields_c`, R42's sum is read off on each sign, and the
ranges are kept by every step since T_z is T_ref, a weighted mean of readings, or another T_z, each limited before. -/
theorem soundSpeedKept : Obligations.SoundSpeedKept :=
  ⟨fun _ _ _ _ h => computeOne_c h, fun _ h => soundSpeed_of_nonneg h, fun _ h => soundSpeed_of_nonpos h, by decide,
    soundSpeed_succ, estimateInv_kept⟩

end Sys2Proof.Machine
end

section
/-! PROOFS. The factors of gain codes (R103): the search by bits finds the greatest number that the exact comparison
admits, which is the nearest one. -/

namespace Sys2Proof.Machine

variable {k m n : Nat} {g g' : Int}

/-! ### The exact comparison -/

theorem codeAtMost_iff :
    codeAtMost k g m = true ↔ (2 * m - 1) ^ 40 * 10 ^ (-g).toNat ≤ (2 * k) ^ 40 * 10 ^ g.toNat := decide_eq_true_iff

theorem not_codeAtMost_succ_iff :
    ¬ codeAtMost k g (m + 1) = true ↔ (2 * k) ^ 40 * 10 ^ g.toNat < (2 * m + 1) ^ 40 * 10 ^ (-g).toNat := by
  rw [codeAtMost_iff, not_le, show 2 * (m + 1) - 1 = 2 * m + 1 by omega]

/-- A smaller number passes too, and so does the same number at a greater gain code. -/
theorem codeAtMost_mono (hm : m ≤ n) (hg : g ≤ g') (h : codeAtMost k g n = true) : codeAtMost k g' m = true := by
  rw [codeAtMost_iff] at h ⊢
  have hneg : (-g').toNat ≤ (-g).toNat := by omega
  have hpos : g.toNat ≤ g'.toNat := by omega
  calc (2 * m - 1) ^ 40 * 10 ^ (-g').toNat
    _ ≤ (2 * n - 1) ^ 40 * 10 ^ (-g).toNat := by gcongr; norm_num
    _ ≤ (2 * k) ^ 40 * 10 ^ g.toNat := h
    _ ≤ (2 * k) ^ 40 * 10 ^ g'.toNat := by gcongr; norm_num

theorem codeAtMost_zero : codeAtMost k g 0 = true := by simp [codeAtMost_iff]

/-! ### The search -/

/-- Where the start passes and the end of the range searched fails, the numbers up to the result are those that
pass: each bit keeps the boundary between `acc` and `acc + 2 ^ bits`. -/
theorem le_codeSearch_iff {bits acc : Nat} (hlo : codeAtMost k g acc = true)
    (hhi : ¬ codeAtMost k g (acc + 2 ^ bits) = true) :
    m ≤ codeSearch k g bits acc ↔ codeAtMost k g m = true := by
  induction bits generalizing acc with
  | zero =>
    refine ⟨fun hm => codeAtMost_mono hm le_rfl hlo, fun h => ?_⟩
    by_contra hm
    exact hhi (codeAtMost_mono (not_le.mp hm) le_rfl h)
  | succ bits ih =>
    rw [codeSearch]
    split
    · next hmid => exact ih hmid (by rwa [add_assoc, ← two_mul, ← pow_succ'])
    · next hmid => exact ih hlo hmid

theorem le_codeScale_iff (h : ¬ codeAtMost k g (2 ^ 25) = true) :
    m ≤ codeScale k g ↔ codeAtMost k g m = true :=
  le_codeSearch_iff codeAtMost_zero (by rwa [zero_add])

/-! ### The gain factors (R103) -/

/-- No factor needs more than 25 bits, since that of the greatest gain code, 24, does not. -/
theorem le_gainFactor_iff (hg : g ≤ 24) : m ≤ gainFactor g ↔ codeAtMost Config.unityFactor g m = true :=
  le_codeScale_iff fun h =>
    absurd (codeAtMost_mono le_rfl hg h : codeAtMost Config.unityFactor 24 (2 ^ 25) = true) (by decide)

theorem gainFactor_eq (hg : g ≤ 24) (hm : codeAtMost Config.unityFactor g m = true)
    (hs : ¬ codeAtMost Config.unityFactor g (m + 1) = true) : gainFactor g = m :=
  le_antisymm (not_lt.mp fun h => hs ((le_gainFactor_iff hg).mp h)) ((le_gainFactor_iff hg).mpr hm)

theorem gainFactor_mono (hg : g ≤ g') (hg' : g' ≤ 24) : gainFactor g ≤ gainFactor g' :=
  (le_gainFactor_iff hg').mpr (codeAtMost_mono le_rfl hg ((le_gainFactor_iff (hg.trans hg')).mp le_rfl))

/-- The factor f is the nearest number to x = 2^22 × 10^(g/40): 2f − 1 ≤ 2x < 2f + 1, at the 40th power. -/
theorem gainFactor_nearest (hg : g ≤ 24) :
    (2 * gainFactor g - 1) ^ 40 * 10 ^ (-g).toNat ≤ (2 * 4194304) ^ 40 * 10 ^ g.toNat ∧
      (2 * 4194304) ^ 40 * 10 ^ g.toNat < (2 * gainFactor g + 1) ^ 40 * 10 ^ (-g).toNat :=
  ⟨codeAtMost_iff.mp ((le_gainFactor_iff hg).mp le_rfl),
    not_codeAtMost_succ_iff.mp fun h => Nat.not_succ_le_self _ ((le_gainFactor_iff hg).mpr h)⟩

theorem gainFactor_greatest : gainFactor 24 = 16697825 := gainFactor_eq (by decide) (by decide) (by decide)

theorem gainFactor_least : gainFactor (-160) = 419 := gainFactor_eq (by decide) (by decide) (by decide)

theorem targetFactor_of_mute {r : ZoneRecord} (h : r.mute = true) : targetFactor r .programme = 0 := by
  simp [targetFactor, h]

/-- Settles O33: the search finds the nearest factor of every code, the factors grow with the code, so that those of
-160 and 24 bound them, and each entry of R103's table passes the comparison where its successor fails. -/
theorem gainFactors : Obligations.GainFactors := by
  refine ⟨fun g hlo hhi => ?_, gainFactor_greatest, ?_, ?_, ?_, ?_, ?_, gainFactor_least,
    fun _ => targetFactor_of_mute⟩
  · obtain ⟨hbelow, habove⟩ := gainFactor_nearest hhi
    exact ⟨hbelow, habove, gainFactor_least ▸ gainFactor_mono hlo hhi,
      gainFactor_greatest ▸ gainFactor_mono hhi le_rfl⟩
  all_goals exact gainFactor_eq (by decide) (by decide) (by decide)

end Sys2Proof.Machine
end

section
/-! PROOFS. What an update of one zone makes of that zone and of the others. -/

namespace Sys2Proof.Machine

theorem State.updZone_updZone (s : State) (z : Zone) (f g : ZoneState → ZoneState) :
    (s.updZone z f).updZone z g = s.updZone z fun x => g (f x) := by
  simp [State.updZone]

theorem updRoute_route (s : State) (y z : Zone) (f : RouteState → RouteState) :
    ((s.updRoute z f).zone y).route = if y = z then f (s.zone y).route else (s.zone y).route := by
  rw [State.updRoute, State.zone_updZone]
  split <;> rfl

theorem updPower_power (s : State) (y z : Zone) (f : PowerUnit → PowerUnit) :
    ((s.updPower z f).zone y).power = if y = z then f (s.zone y).power else (s.zone y).power := by
  rw [State.updPower, State.zone_updZone]
  split <;> rfl

theorem updLine_line (s : State) (y z : Zone) (f : LineState → LineState) :
    ((s.updLine z f).zone y).line = if y = z then f (s.zone y).line else (s.zone y).line := by
  rw [State.updLine, State.zone_updZone]
  split <;> rfl

theorem updEq_eq (s : State) (y z : Zone) (f : EqState → EqState) :
    ((s.updEq z f).zone y).eq = if y = z then f (s.zone y).eq else (s.zone y).eq := by
  rw [State.updEq, State.zone_updZone]
  split <;> rfl

theorem updGain_gain (s : State) (y z : Zone) (f : GainState → GainState) :
    ((s.updGain z f).zone y).gain = if y = z then f (s.zone y).gain else (s.zone y).gain := by
  rw [State.updGain, State.zone_updZone]
  split <;> rfl

theorem entry_updEntry (s : State) (y z : Zone) (f : TableEntry → TableEntry) :
    ((s.updEntry z f).zone y).entry = if y = z then f (s.zone y).entry else (s.zone y).entry := by
  rw [State.updEntry, State.zone_updZone]
  split <;> rfl

end Sys2Proof.Machine
end

section
/-! PROOFS. What a command can do, said once: a list of acts on the state, each with what its callers know of it and the
parts it may change; every command is a run of such acts, so that a property each act keeps is kept by every step. -/

namespace Sys2Proof.Machine

-- One theorem at a time, and a long one, marked, on a thread of its own: the compile has 22 GiB. The two linters do
-- not see into such a proof.
set_option Elab.async false
set_option linter.unusedTactic false
set_option linter.unreachableTactic false

/-! ### What the callers of an act know -/

/-- A route set within its limits, in the order of the selection (R111, R120). -/
structure RouteSet (l : List RouteEntry) : Prop where
  length : l.length ≤ 6
  within : ∀ e ∈ l, e.within = true
  order : l.Pairwise fun a b => a.before b = true ∧ ¬ (a.port = b.port ∧ a.source = b.source)

/-- The probe's settings, the marks elapsed in a period and the result list, within their limits (R145, R147, R153). -/
def ProbeUnit.Counted (x : ProbeUnit) : Prop :=
  (x.pending.within ∧ x.current.within) ∧
    (∀ e d w b, x.state.run = some (.opened e d w b) → e ≤ 1999) ∧ x.results.length ≤ 16

/-- The counts of a sensor record, within their limits (R79). -/
def SensorRecord.Counted (r : SensorRecord) : Prop := r.failures ≤ 3 ∧ r.framesSince ≤ 65535000

/-- The temperature unit within its limits (R79, R81). -/
def TempUnit.Counted (x : TempUnit) : Prop :=
  (∀ n : Fin 8, x.sensors[n].Counted) ∧ ∀ n, x.pollTimer = some n → n ≤ 60000

/-- The supervision timer, within its limits (R180). -/
def Supervision.Counted (x : Supervision) : Prop :=
  (100 ≤ x.timeout ∧ x.timeout ≤ 10000) ∧ ∀ n, x.watch = .watching n → n ≤ x.timeout

/-- The erase counts and the recall queue, within their limits (R161, R169). -/
def StoreUnit.Counted (x : StoreUnit) : Prop :=
  (∀ n : SectorNo, x.sectors[n].eraseCount ≤ 65535) ∧ x.recalls.length ≤ 4

/-- The contents of the sectors and the captured contents, within their ranges (R175). -/
def StoreUnit.Ranged (x : StoreUnit) : Prop :=
  (∀ n : SectorNo, x.sectors[n].contents.within = true) ∧ ∀ op, x.op = some op → op.captured.within = true

/-- A change of the store neither begins nor ends start-up, and keeps its limits and its ranges. -/
structure StoreKept (s : State) (x : StoreUnit) : Prop where
  starting : x.state = .starting ↔ s.store.state = .starting
  counted : s.store.Counted → x.Counted
  ranged : RangeInv s → x.Ranged

/-- A change of the probe keeps its limits, and leaves it IDLE during start-up. -/
structure ProbeKept (s : State) (x : ProbeUnit) : Prop where
  idle : s.starting = true → (∀ z, s.powerOf z = .disabled) → s.probe.state = .idle → x.state = .idle
  counted : s.probe.Counted → x.Counted

/-- A new route set of a zone lies within the limits where the old one did, and is empty where a DISABLED zone's was. -/
structure RoutesSound (s : State) (z : Zone) (l : List RouteEntry) : Prop where
  set : RouteSet (s.zone z).route.entries → RouteSet l
  disabled : s.powerOf z = .disabled → (s.zone z).route.entries = [] → l = []

/-- An entry offered to the change queue: bypass count 0, one zone for a COUPLING, its values in range (R18 to R21). -/
structure Offered (s : State) (e : QueueEntry) : Prop where
  bypass : e.bypass = 0
  namesOne : e.namesOne
  ranged : RangeInv s → e.change.within = true

/-- What ALLOCATE has checked of an allocation before it writes it (R61). -/
structure Allocatable (s : State) (z : Zone) (a : Option Allocation) : Prop where
  running : s.starting = false
  disabled : s.powerOf z = .disabled
  ranged : a.all Allocation.within = true
  apart : ∀ y b x, y ≠ z → (s.active y).allocation = some b → a = some x → x.overlaps b = false

/-! ### The acts -/

/-- A reset, cold or of RESTART, and the end of start-up. -/
inductive ResetAct (s : State) : State → Prop
  | reset {temp : TempUnit} (kind : ResetKind) (n : Nat) (v : Vector Bool 32)
      (counted : s.temp.Counted → temp.Counted) : ResetAct s (afterReset s.pending s.store.sectors temp kind n v)
  | startUp (starting : s.starting = true) : ResetAct s (startUp s)

/-- What takes a zone into service and out of it. -/
inductive ServiceAct (s : State) : State → Prop
  | enable {z : Zone} (running : s.starting = false) (disabled : s.powerOf z = .disabled)
      (allocated : (s.active z).allocation ≠ none) : ServiceAct s (enableZone z s)
  | disable {z : Zone} (running : s.starting = false) (inService : s.powerOf z ≠ .disabled) :
      ServiceAct s (disableZone z s)

/-- What writes the records and the targets. -/
inductive RecordAct (s : State) : State → Prop
  | transfer : RecordAct s (transferWork s)
  | allocate {z : Zone} {a : Option Allocation} (may : Allocatable s z a) :
      RecordAct s (directWrite z .allocation (fun r => { r with allocation := a }) s)
  | compute (c : ComputationClass) (z : Zone) : RecordAct s (computeOne c z s)

/-- What moves a zone's routes, its power state and its crossfade. -/
inductive PowerAct (s : State) : State → Prop
  | routes {z : Zone} {l : List RouteEntry} (sound : RoutesSound s z l) : PowerAct s (setRoutes z l s)
  | fadeRest (z : Zone) : PowerAct s (fadeEndPower z (s.updRoute z fun r => { r with fade := r.fade.finish }))
  | wake {z : Zone} {n : Nat} (waking : s.powerOf z = .waking n) : PowerAct s (setPower z .live s)
  | park {z : Zone} {d n : Nat} (draining : s.powerOf z = .draining d n) : PowerAct s (setPower z .parked s)
  | grant {z : Zone} (waiting : s.powerOf z = .wakeWait) : PowerAct s (grant z s)
  | crossfadeEnd (z : Zone) : PowerAct s (crossfadeFinish z s)

/-- What a frame or a sample moves in a zone's line, gain and sound. -/
inductive AudioAct (s : State) : State → Prop
  | slew (z : Zone) : AudioAct s (slewZone z s)
  | gain (z : Zone) : AudioAct s (gainZone z s)
  | sample (x : Vector Sample 8) (y : Sample) (k : Nat) (z : Zone) : AudioAct s (sampleZone x y k z s)
  | clip (z : Zone) : AudioAct s (s.updGain z fun g => { g with clip := 0 })

/-- What raises an event, sets a notification and moves a link. -/
inductive PortAct (s : State) : State → Prop
  | raise (p : Port) (d : Detail) : PortAct s (s.raise p d)
  | noteSet (p : Port) (k : Fin 16) (b : Bool) {n : Nat} (level : n ≤ 7) :
      PortAct s (s.updNote p k fun f => { f with enable := b, level := n })
  | noteClear (p : Port) (k : Fin 16) : PortAct s (s.updNote p k NoteFlag.cleared)
  | link {p : Port} {f : Link → Link}
      (places : (s.port p).link.buffer.length ≤ 2 → (f (s.port p).link).buffer.length ≤ 2) : PortAct s (s.updLink p f)

/-- A change of the probe, of the store and of the supervision timer. -/
inductive UnitAct (s : State) : State → Prop
  | probe {f : ProbeUnit → ProbeUnit} (kept : ProbeKept s (f s.probe)) : UnitAct s (s.updProbe f)
  | store {x : StoreUnit} (kept : StoreKept s x) : UnitAct s { s with store := x }
  | supervision {x : Supervision} (counted : s.supervision.Counted → x.Counted) : UnitAct s { s with supervision := x }

/-- A change offered to the queue, the settings and the sensors. -/
inductive SetAct (s : State) : State → Prop
  | offer {e : QueueEntry} (sound : Offered s e) : SetAct s (offer e s)
  | settings {x : Settings} (ranged : RangeInv s → x.within = true) :
      SetAct s { s with settings := x, queue := lowerBypass x.bypassMax s.queue }
  | sensorFields (n : Fin 8) {f : SensorFields} (address : 0x08 ≤ f.address ∧ f.address ≤ 0x77) :
      SetAct s { s with settings := { s.settings with sensors := s.settings.sensors.set n f } }
  | sensor {n : Fin 8} {f : SensorRecord → SensorRecord}
      (counted : (s.sensor n).Counted → (f (s.sensor n)).Counted) : SetAct s (s.updSensor n f)
  | round (r : Option Round) : SetAct s (s.setRound r)
  | timer : SetAct s (loadTimer s)

/-- What no invariant speaks of. -/
inductive PlainAct (s : State) : State → Prop
  | pending (l : List Instr) : PlainAct s { s with pending := l }
  | index (n : Nat) (b : Bool) : PlainAct s { s with sampleIndex := n, atMark := b }
  | history (h : Vector Nat 100) : PlainAct s { s with history := h }
  | amplifier (v : Vector Bool 32) : PlainAct s { s with ampSent := v }

/-- The acts commands are made of, by the parts of the state they change. -/
inductive Act (s : State) : State → Prop
  | reset {t : State} (a : ResetAct s t) : Act s t
  | tick : Act s (tick s)
  | complete : Act s (completeHand s)
  | service {t : State} (a : ServiceAct s t) : Act s t
  | record {t : State} (a : RecordAct s t) : Act s t
  | power {t : State} (a : PowerAct s t) : Act s t
  | audio {t : State} (a : AudioAct s t) : Act s t
  | port {t : State} (a : PortAct s t) : Act s t
  | unit {t : State} (a : UnitAct s t) : Act s t
  | set {t : State} (a : SetAct s t) : Act s t
  | plain {t : State} (a : PlainAct s t) : Act s t

variable {s t u : State}

theorem store_only (s : State) (x : StoreUnit) : Only [.store] s { s with store := x } := updStore_only s fun _ => x

set_option Elab.async true in
theorem afterReset_only (s : State) (temp : TempUnit) (kind : ResetKind) (n : Nat) (v : Vector Bool 32) :
    Only (partsOf .coldReset) s (afterReset s.pending s.store.sectors temp kind n v) :=
  Only.fields (by rintro ⟨⟩ hp <;> first | exact absurd (by decide) hp | rfl)

theorem slewZone_only (z : Zone) (s : State) : Only [.line] s (slewZone z s) := updLine_only ..

/-- The parts STARTUP_DONE may change. -/
theorem startUp_only (s : State) : Only (partsOf .startupDone) s (startUp s) := by
  unfold startUp startRound
  dsimp only
  refine Only.trans ?_ ((roundOn_only ..).mono rfl)
  refine Only.trans ?_ ((loadTimer_only _).mono rfl)
  refine Only.trans ?_ ((updStore_only ..).mono rfl)
  refine Only.trans ?_ ((raiseAll_only ..).mono rfl)
  refine Only.trans ?_ ((Only.eachZone _ eqSetUp_only _).mono rfl)
  refine Only.trans ?_ ((Only.eachZone _ lineUp_only _).mono rfl)
  refine Only.trans ?_ ((Only.eachZone _ (compute_only .record false) _).mono rfl)
  refine Only.trans ?_ ((Only.eachZone _ comeUp_only _).mono rfl)
  refine Only.trans ?_ ((Only.eachZone _ applySceneZero_only _).mono rfl)
  exact (Only.eachZone _ loadZone_only s).mono rfl

set_option Elab.async true in
/-- The settings and the queue written together. -/
theorem settingsQueue_only (s : State) (x : Settings) (q : ChangeQueue) :
    Only [.settings, .queue] s { s with settings := x, queue := q } :=
  Only.fields (by rintro ⟨⟩ hp <;> first | exact absurd (by decide) hp | rfl | exact fun _ => rfl)

theorem ServiceAct.only (h : ServiceAct s t) :
    Only [.entry, .target, .line, .eq, .gain, .route, .power, .mem, .eqWait, .probe, .ports] s t := by
  cases h with
  | enable => exact (enableZone_only ..).mono rfl
  | disable => exact (disableZone_only ..).mono rfl

theorem RecordAct.only (h : RecordAct s t) : Only [.entry, .target, .ports, .eq, .eqWait] s t := by
  cases h with
  | transfer => exact (transferWork_only s).mono rfl
  | allocate => exact (directWrite_only ..).mono rfl
  | compute => exact (computeOne_only ..).mono rfl

theorem PowerAct.only (h : PowerAct s t) : Only [.route, .power, .gain, .eq, .eqWait] s t := by
  cases h with
  | routes => exact setRoutes_only ..
  | fadeRest => exact ((updRoute_only ..).mono rfl).trans ((fadeEndPower_only ..).mono rfl)
  | wake | park => exact (setPower_only ..).mono rfl
  | grant => exact (grant_only ..).mono rfl
  | crossfadeEnd => exact (crossfadeFinish_only ..).mono rfl

theorem AudioAct.only (h : AudioAct s t) : Only Part.sounding s t := by
  cases h with
  | slew => exact (slewZone_only ..).mono rfl
  | gain => exact (gainZone_only ..).mono rfl
  | sample => exact sampleZone_only ..
  | clip => exact (updGain_only ..).mono rfl

theorem PortAct.only (h : PortAct s t) : Only [.ports] s t := by
  cases h with
  | raise => exact raise_only ..
  | noteSet | noteClear => exact updNote_only ..
  | link => exact updLink_only ..

theorem UnitAct.only (h : UnitAct s t) : Only [.probe, .store, .supervision] s t := by
  cases h with
  | probe => exact (updProbe_only ..).mono rfl
  | store => exact (store_only ..).mono rfl
  | supervision => exact (supervision_only ..).mono rfl

theorem SetAct.only (h : SetAct s t) : Only [.queue, .settings, .temp] s t := by
  cases h with
  | offer => exact (offer_only ..).mono rfl
  | settings => exact (settingsQueue_only ..).mono rfl
  | sensorFields => exact (settings_only ..).mono rfl
  | sensor => exact (updSensor_only ..).mono rfl
  | round => exact (setRound_only ..).mono rfl
  | timer => exact (loadTimer_only s).mono rfl

theorem PlainAct.only (h : PlainAct s t) : Only [.pending, .sampleIndex, .atMark, .history, .ampSent] s t := by
  cases h with
  | pending => exact (pending_only ..).mono rfl
  | index => exact (index_only ..).mono rfl
  | history => exact (history_only ..).mono rfl
  | amplifier => exact (ampSent_only ..).mono rfl

/-! ### Runs -/

/-- A run of acts. -/
inductive Acts (s : State) : State → Prop
  | refl : Acts s s
  | snoc {t u : State} (run : Acts s t) (act : Act t u) : Acts s u

theorem Act.run (h : Act s t) : Acts s t := Acts.refl.snoc h

theorem RecordAct.run (h : RecordAct s t) : Acts s t := (Act.record h).run

theorem PowerAct.run (h : PowerAct s t) : Acts s t := (Act.power h).run

theorem PortAct.run (h : PortAct s t) : Acts s t := (Act.port h).run

theorem UnitAct.run (h : UnitAct s t) : Acts s t := (Act.unit h).run

theorem SetAct.run (h : SetAct s t) : Acts s t := (Act.set h).run

theorem PlainAct.run (h : PlainAct s t) : Acts s t := (Act.plain h).run

theorem AudioAct.run (h : AudioAct s t) : Acts s t := (Act.audio h).run

theorem ServiceAct.run (h : ServiceAct s t) : Acts s t := (Act.service h).run

theorem ResetAct.run (h : ResetAct s t) : Acts s t := (Act.reset h).run

theorem Acts.trans (h : Acts s t) (k : Acts t u) : Acts s u := by
  induction k with
  | refl => exact h
  | snoc _ act ih => exact ih.snoc act

/-- What each act keeps, a run keeps. -/
theorem Acts.keeps {P : State → Prop} (act : ∀ {s t}, P s → Act s t → P t) (h : Acts s t) (hs : P s) : P t := by
  induction h with
  | refl => exact hs
  | snoc _ a ih => exact act ih a

theorem Acts.ite {c : Prop} [Decidable c] (h : Acts s t) (k : Acts s u) : Acts s (if c then t else u) := by
  split
  · exact h
  · exact k

theorem Acts.eachOf (zs : List Zone) {f : Zone → State → State} (h : ∀ z s, Acts s (f z s)) (s : State) :
    Acts s (s.eachOf zs f) :=
  State.eachOf_keeps (P := Acts s) zs f (fun z t ht => ht.trans (h z t)) s .refl

theorem Acts.eachZone {f : Zone → State → State} (h : ∀ z s, Acts s (f z s)) (s : State) : Acts s (s.eachZone f) :=
  Acts.eachOf allZones h s

theorem Acts.foldl {α : Type} {f : State → α → State} (h : ∀ s a, Acts s (f s a)) (as : List α) (s : State) :
    Acts s (as.foldl f s) :=
  List.foldlRecOn as f .refl fun t ht a _ => ht.trans (h t a)

/-! ### Links, checks and events -/

theorem respond_acts (s : State) (p : Port) (r : Response) : Acts s (s.respond p r) := (PortAct.link id).run

theorem answer_acts (s : State) (p : Port) (code : Nat) (r : Result) (b : List Byte) : Acts s (s.answer p code r b) :=
  respond_acts ..

theorem Acts.answer (h : Acts s t) (p : Port) (code : Nat) (r : Result) (b : List Byte) :
    Acts s (t.answer p code r b) := h.trans (answer_acts ..)

theorem guarded_acts {p : Port} {code : Nat} {b : Bool} {f : State → State} (h : s.starting = false → Acts s (f s)) :
    Acts s (guarded s p code b f) := by
  unfold guarded
  split
  · exact answer_acts ..
  · next k => exact Acts.ite (h (by simpa using k)) (answer_acts ..)

theorem checked_acts {α : Type} {p : Port} {code : Nat} {v : Option α} {f : α → State}
    (h : ∀ a, v = some a → Acts s (f a)) : Acts s (checked s p code v f) := by
  cases v with
  | none => exact answer_acts ..
  | some a => exact h a rfl

theorem raiseAll_acts (s : State) (ps : List Port) (d : Detail) : Acts s (s.raiseAll ps d) :=
  Acts.foldl (fun _ p => (PortAct.raise p d).run) ps s

theorem atMark_acts (s : State) : Acts s { s with atMark := true } := (PlainAct.index s.sampleIndex true).run

theorem takeIf_acts {f : State → State} {b : Bool} {s : State} (h : b = true → Acts s (f s)) : Acts s (takeIf b f s) := by
  cases b with
  | false => exact .refl
  | true => exact h rfl

/-! ### Computations and notices -/

theorem compute_acts (c : ComputationClass) (b : Bool) (z : Zone) (s : State) : Acts s (compute c b z s) := by
  have h : Acts s (computeOne c z s) := (RecordAct.compute c z).run
  exact Acts.ite (h.trans (Acts.eachOf _ (fun z s => (RecordAct.compute .record z).run) _)) h

theorem sensorNotice_acts (n : Fin 8) (s : State) : Acts s (sensorNotice n s) :=
  Acts.ite .refl (Acts.eachZone (fun z s => Acts.ite (compute_acts _ _ z s) .refl) s)

theorem tRefChanged_acts (s : State) : Acts s (tRefChanged s) :=
  Acts.eachZone (fun z s => Acts.ite (compute_acts _ _ z s) .refl) s

/-! ### Route sets (R113 to R117, R119) -/

theorem filter_sound (s : State) (z : Zone) (keep : RouteEntry → Bool) :
    RoutesSound s z ((s.zone z).route.entries.filter keep) :=
  ⟨fun ⟨n, w, p⟩ => ⟨(List.length_filter_le ..).trans n, fun e he => w e (List.mem_of_mem_filter he), p.filter keep⟩,
    fun _ h => by rw [h]; rfl⟩

set_option Elab.async true in
theorem mem_routeInsert {e x : RouteEntry} {l : List RouteEntry} : x ∈ routeInsert e l ↔ x = e ∨ x ∈ l := by
  induction l with
  | nil => simp [routeInsert]
  | cons y l ih =>
    simp only [routeInsert]
    split
    · simp
    · simp only [List.mem_cons, ih]
      tauto

theorem length_routeInsert (e : RouteEntry) (l : List RouteEntry) : (routeInsert e l).length = l.length + 1 := by
  induction l with
  | nil => rfl
  | cons y l ih =>
    simp only [routeInsert]
    split <;> simp [ih]

/-- The place of an entry in the order of the selection: the level down, the source up, the port by its rank (R120). -/
def RouteEntry.rank (e : RouteEntry) : ℕᵒᵈ ×ₗ (Source ×ₗ ℕ) :=
  toLex (OrderDual.toDual e.level, toLex (e.source, portRank e.port))

theorem RouteEntry.before_iff {a b : RouteEntry} : a.before b = true ↔ a.rank < b.rank := by
  simp [before, rank, Prod.Lex.toLex_lt_toLex]

theorem RouteEntry.before_trans {a b c : RouteEntry} (h : a.before b = true) (k : b.before c = true) :
    a.before c = true :=
  before_iff.mpr ((before_iff.mp h).trans (before_iff.mp k))

theorem portRank_injective : portRank.Injective := fun a b h => by
  cases a <;> cases b <;> trivial

/-- Of two entries of distinct keys one is selected before the other (R120). -/
theorem RouteEntry.before_total {a b : RouteEntry} (h : ¬ (a.port = b.port ∧ a.source = b.source))
    (k : ¬ a.before b = true) : b.before a = true := by
  refine before_iff.mpr (lt_of_le_of_ne (not_lt.mp fun l => k (before_iff.mpr l)) fun e => h ?_)
  simp only [rank, EmbeddingLike.apply_eq_iff_eq, Prod.mk.injEq] at e
  exact ⟨(portRank_injective e.2.2).symm, e.2.1.symm⟩
/-- An entry whose key is not in a set keeps it in order where it is put. -/
theorem routeInsert_pairwise {e : RouteEntry} {l : List RouteEntry}
    (new : ∀ x ∈ l, ¬ (e.port = x.port ∧ e.source = x.source))
    (h : l.Pairwise fun a b => a.before b = true ∧ ¬ (a.port = b.port ∧ a.source = b.source)) :
    (routeInsert e l).Pairwise fun a b => a.before b = true ∧ ¬ (a.port = b.port ∧ a.source = b.source) := by
  induction l with
  | nil => simp [routeInsert]
  | cons y l ih =>
    obtain ⟨hy, hl⟩ := List.pairwise_cons.mp h
    have newY := new y List.mem_cons_self
    simp only [routeInsert]
    split
    · next b =>
      refine List.pairwise_cons.mpr ⟨fun x hx => ⟨?_, new x hx⟩, h⟩
      rcases List.mem_cons.mp hx with rfl | hx
      · exact b
      · exact RouteEntry.before_trans b (hy x hx).1
    · next b =>
      refine List.pairwise_cons.mpr ⟨fun x hx => ?_, ih (fun x hx => new x (List.mem_cons_of_mem _ hx)) hl⟩
      rcases mem_routeInsert.mp hx with rfl | hx
      · exact ⟨RouteEntry.before_total newY b, fun ⟨p, q⟩ => newY ⟨p.symm, q.symm⟩⟩
      · exact hy x hx

theorem mem_routeRemove {p : Port} {src : Source} {x : RouteEntry} {l : List RouteEntry} :
    x ∈ routeRemove p src l ↔ x ∈ l ∧ ¬ (x.port = p ∧ x.source = src) := by
  simp only [routeRemove, List.mem_filter, RouteEntry.hasKey, Bool.not_eq_true', decide_eq_false_iff_not]

/-- A set less a key it holds is shorter. -/
theorem length_routeRemove_lt {p : Port} {src : Source} {l : List RouteEntry}
    (h : l.any (RouteEntry.hasKey p src) = true) : (routeRemove p src l).length < l.length := by
  obtain ⟨x, hx, k⟩ := List.any_eq_true.mp h
  rw [routeRemove, ← List.countP_eq_length_filter]
  exact (List.countP_lt_length_iff (p := fun e : RouteEntry => !e.hasKey p src)).mpr ⟨x, hx, by simp [k]⟩

/-- An entry within its limits, put where the set holds its key or has room, keeps the set in its limits (R114). -/
theorem routePut_set {e : RouteEntry} {l : List RouteEntry} (he : e.within = true)
    (room : l.any (RouteEntry.hasKey e.port e.source) = true ∨ l.length < 6) (h : RouteSet l) :
    RouteSet (routePut e l) := by
  obtain ⟨n, w, p⟩ := h
  refine ⟨?_, fun x hx => ?_, routeInsert_pairwise (fun x hx k => ?_) (p.filter _)⟩
  · have le : (routeRemove e.port e.source l).length ≤ l.length := List.length_filter_le ..
    rw [routePut, length_routeInsert]
    rcases room with k | k
    · have := length_routeRemove_lt k
      omega
    · omega
  · rcases mem_routeInsert.mp hx with rfl | hx
    · exact he
    · exact w x (mem_routeRemove.mp hx).1
  · exact (mem_routeRemove.mp hx).2 ⟨k.1.symm, k.2.symm⟩

/-- The entry a raise evicts is in the set (R115). -/
theorem evictee_mem {l : List RouteEntry} {x : RouteEntry} (h : evictee l = some x) : x ∈ l ∧ x.port ≠ .V := by
  have key : ∀ (m : List RouteEntry) (best : Option RouteEntry) (y : RouteEntry), m.foldl
      (fun best e => match best with
        | none => some e
        | some b =>
          if e.level < b.level ∨ (e.level = b.level ∧ (b.source < e.source ∨
              (b.source = e.source ∧ e.port = .P ∧ b.port = .C))) then some e else some b) best = some y →
      best = some y ∨ y ∈ m := by
    intro m
    induction m with
    | nil => exact fun _ _ h => .inl h
    | cons e m ih =>
      intro best y h
      rcases ih _ y h with k | k
      · cases best with
        | none => exact .inr (Option.some.inj k ▸ List.mem_cons_self)
        | some b =>
          dsimp only at k
          split at k
          · exact .inr (Option.some.inj k ▸ List.mem_cons_self)
          · exact .inl k
      · exact .inr (List.mem_cons_of_mem _ k)
  have mem := (key _ none x h).resolve_left nofun
  simpa using mem

/-- What a raise that is taken or evicts finds (R113 to R115). -/
theorem raiseOutcome_taken {z : Zone} {e : RouteEntry} (h : raiseOutcome s z e = .taken) :
    s.powerOf z ≠ .disabled ∧ ((s.zone z).route.entries.any (RouteEntry.hasKey e.port e.source) = true ∨
      (s.zone z).route.entries.length < 6) := by
  unfold raiseOutcome at h
  dsimp only at h
  split at h
  · cases h
  · next hd =>
    split at h
    · next hk => exact ⟨hd, .inl hk⟩
    · split at h
      · next hl => exact ⟨hd, .inr hl⟩
      · split at h
        · split at h <;> cases h
        · cases h

theorem raiseOutcome_evicted {z : Zone} {e x : RouteEntry} (h : raiseOutcome s z e = .evicted x) :
    s.powerOf z ≠ .disabled ∧ e.port = .V ∧ x ∈ (s.zone z).route.entries ∧ x.port ≠ .V := by
  unfold raiseOutcome at h
  dsimp only at h
  split at h
  · cases h
  · next hd =>
    split at h
    · cases h
    · split at h
      · cases h
      · split at h
        · next hv =>
          split at h
          · next k => cases h; exact ⟨hd, hv, evictee_mem k⟩
          · cases h
        · cases h

theorem put_sound {z : Zone} {e : RouteEntry} (he : e.within = true) (h : raiseOutcome s z e = .taken) :
    RoutesSound s z (routePut e (s.zone z).route.entries) :=
  ⟨routePut_set he (raiseOutcome_taken h).2, fun k _ => absurd k (raiseOutcome_taken h).1⟩

theorem evicting_sound {z : Zone} {e x : RouteEntry} (he : e.within = true) (h : raiseOutcome s z e = .evicted x) :
    RoutesSound s z (raisedSet (s.zone z).route.entries e (.evicted x)) := by
  obtain ⟨hd, -, hx, -⟩ := raiseOutcome_evicted h
  refine ⟨fun k => ?_, fun k _ => absurd k hd⟩
  have less : (routeRemove x.port x.source (s.zone z).route.entries).length < (s.zone z).route.entries.length :=
    length_routeRemove_lt (List.any_eq_true.mpr ⟨x, hx, by simp [RouteEntry.hasKey]⟩)
  exact routePut_set he (.inr (less.trans_le k.1)) ((filter_sound s z _).set k)

theorem probeEntry_within : probeEntry.within = true := by decide

/-- A start that passes its checks finds a zone in service that takes the probe's entry (R148). -/
theorem startFailure_none {z : Zone} (h : startFailure s z = none) :
    raiseOutcome s z probeEntry = .taken ∧ s.winnerLevel z < 6 := by
  unfold startFailure at h
  split at h
  · cases h
  · next hd =>
    split at h
    · cases h
    · next hl =>
      split at h
      · cases h
      · next hf =>
        refine ⟨?_, by omega⟩
        cases k : raiseOutcome s z probeEntry with
        | taken => rfl
        | evicted x => exact absurd (raiseOutcome_evicted k).2.1 (by decide)
        | zoneDisabled =>
          unfold raiseOutcome at k
          dsimp only at k
          rw [if_neg hd] at k
          (repeat' split at k) <;> cases k
        | routeFull => exact absurd k hf

end Sys2Proof.Machine
end

section
/-! PROOFS. Every command is a run of acts: the probe, the routes, the queue, the sensors and the store, the audio clock,
the commands of the links, and the rows. -/

namespace Sys2Proof.Machine

-- One theorem at a time, and a long one, marked, on a thread of its own: the compile has 22 GiB. The two linters do
-- not see into such a proof.
set_option Elab.async false
set_option linter.unusedTactic false
set_option linter.unreachableTactic false

variable {s t u : State}

/-! ### The probe -/

/-- A change of the probe that leaves it IDLE, or in which it was not IDLE, keeps it IDLE during start-up. -/
theorem ProbeKept.of {x : ProbeUnit} (idle : x.state = .idle ∨ s.probe.state ≠ .idle ∨ s.starting = false)
    (counted : s.probe.Counted → x.Counted) : ProbeKept s x := by
  refine ⟨fun hs _ hi => ?_, counted⟩
  rcases idle with h | h | h
  · exact h
  · exact absurd hi h
  · rw [hs] at h; cases h

/-- A change of the probe's state alone, to one whose run has no mark counted that was not before. -/
theorem ProbeUnit.Counted.state {x : ProbeUnit} (h : x.Counted) {p : ProbeState}
    (run : ∀ e d w b, p.run = some (.opened e d w b) → e ≤ 1999) : { x with state := p }.Counted :=
  ⟨h.1, run, h.2.2⟩

/-- A state without a run record counts no marks. -/
theorem ProbeState.marks_of_none {p : ProbeState} (h : p.run = none) (e d : Nat) (w : Option Window) (b : Bool)
    (k : p.run = some (.opened e d w b)) : e ≤ 1999 := by
  rw [h] at k; cases k

/-- A period that is still to open has counted no marks. -/
theorem ProbeState.marks_of_toOpen {p : ProbeState} {n : Nat} (h : p.run = some (.toOpen n)) (e d : Nat)
    (w : Option Window) (b : Bool) (k : p.run = some (.opened e d w b)) : e ≤ 1999 := by
  rw [h] at k; cases k

theorem ProbeState.ne_idle {p q : ProbeState} (h : p = q) (k : q ≠ .idle) : p ≠ .idle := h ▸ k

theorem ProbeState.run_setRun {p : ProbeState} {r : Run} (h : p.run = some r) (q : Run) : (p.setRun q).run = some q := by
  cases p <;> first | rfl | cases h

/-- A new run record in place of one whose marks it does not exceed. -/
theorem setRun_acts {r q : Run} (h : s.probe.state.run = some r)
    (marks : ∀ e d w b, q = .opened e d w b → s.probe.Counted → e ≤ 1999) :
    Acts s (s.updProbe fun x => { x with state := x.state.setRun q }) := by
  refine (UnitAct.probe (.of (.inr (.inl fun e => ?_)) fun k => k.state fun e d w b r => ?_)).run
  · rw [e] at h; cases h
  · rw [ProbeState.run_setRun h] at r
    exact marks e d w b (Option.some.inj r) k

theorem probeTest_acts (s : State) : Acts s (probeTest s) := by
  unfold probeTest
  split
  · next h =>
    exact Acts.ite (UnitAct.probe (.of (.inr (.inl (ProbeState.ne_idle h ProbeState.noConfusion))) fun k => k.state (ProbeState.marks_of_toOpen rfl))).run .refl
  all_goals exact .refl

set_option Elab.async true in
theorem appendResult_acts (r : ProbeResult) (h : s.probe.state ≠ .idle) : Acts s (appendResult r s) := by
  refine Acts.trans (UnitAct.probe (.of (.inr (.inl h)) fun k => ⟨k.1, k.2.1, ?_⟩)).run (PortAct.raise ..).run
  simp [Config.probeResults]
  omega

/-- An open window gives its result and is closed. -/
theorem closing_acts {e d : Nat} {w : Window} {b : Bool} (r : ProbeResult)
    (h : s.probe.state.run = some (.opened e d (some w) b)) :
    Acts s (appendResult r (s.updProbe fun x => { x with state := x.state.setRun (.opened e d none b) })) := by
  refine (setRun_acts h fun e' d' w' b' q k => ?_).trans (appendResult_acts r fun i => ?_)
  · cases q; exact k.2.1 _ _ _ _ h
  · have := ProbeState.run_setRun h (.opened e d none b)
    rw [show s.probe.state.setRun _ = ProbeState.idle from i] at this
    cases this

theorem closeWindow_acts (s : State) : Acts s (closeWindow s) := by
  unfold closeWindow
  split
  · next h => exact closing_acts _ h
  · exact .refl

theorem abortWindow_acts (s : State) : Acts s (abortWindow s) := by
  unfold abortWindow
  split
  · next h => exact closing_acts _ h
  · exact .refl

theorem idle_acts (s : State) : Acts s (s.updProbe fun x => { x with state := .idle }) :=
  (UnitAct.probe (.of (.inl rfl) fun k => k.state (ProbeState.marks_of_none rfl))).run

/-- A probe that is not IDLE waits. -/
theorem waiting_acts (h : s.probe.state ≠ .idle ∨ s.starting = false) :
    Acts s (s.updProbe fun x => { x with state := .waitingZone }) :=
  (UnitAct.probe (.of (.inr h) fun k => k.state (ProbeState.marks_of_none rfl))).run

theorem copySettings_acts (s : State) : Acts s (copySettings s) :=
  (UnitAct.probe ⟨fun _ _ h => h, fun k => ⟨⟨k.1.1, k.1.1⟩, k.2⟩⟩).run

theorem probeDrop_acts (z : Zone) (s : State) : Acts s (probeDrop z s) := (PowerAct.routes (filter_sound s z _)).run

theorem probeIdle_acts (z : Zone) (s : State) : Acts s (probeIdle z s) := (idle_acts s).trans (probeDrop_acts ..)

theorem probeCancel_acts (r : CancelReason) (s : State) : Acts s (probeCancel r s) :=
  ((abortWindow_acts s).trans (probeIdle_acts ..)).trans (PortAct.raise ..).run

theorem probeBegin_acts {z : Zone} (h : raiseOutcome s z probeEntry = .taken) : Acts s (probeBegin z s) := by
  have out : raiseOutcome (s.updProbe fun x => { x with state := .waitingZone }) z probeEntry = .taken := h
  have waits : Acts s (s.updProbe fun x => { x with state := .waitingZone }) :=
    (UnitAct.probe ⟨fun _ d _ => absurd (d z) (raiseOutcome_taken h).1, fun k => k.state (ProbeState.marks_of_none rfl)⟩).run
  exact (waits.trans (PowerAct.routes (put_sound probeEntry_within out)).run).trans (probeTest_acts _)

theorem probeStart_acts (z : Zone) (s : State) : Acts s (probeStart z s) := by
  unfold probeStart
  split
  · next h => exact probeBegin_acts (startFailure_none h).1
  · exact (idle_acts s).trans (PortAct.raise ..).run

theorem probeMove_acts (a b : Zone) (s : State) : Acts s (probeMove a b s) :=
  (probeDrop_acts ..).trans (probeStart_acts ..)

theorem probeAbort_acts (s : State) : Acts s (probeAbort s) := by
  have h := (abortWindow_acts s).trans (copySettings_acts _)
  unfold probeAbort
  dsimp only
  split
  · next k =>
    have waits := h.trans (waiting_acts (.inl (ProbeState.ne_idle k ProbeState.noConfusion)))
    exact Acts.ite (waits.trans (probeTest_acts _)) (waits.trans (probeMove_acts ..))
  · exact h.trans (probeIdle_acts ..)
  all_goals exact h

theorem probeWinner_acts (z : Zone) (a b : Option RouteEntry) (s : State) : Acts s (probeWinner z a b s) := by
  refine Acts.ite ?_ .refl
  split
  · exact .refl
  · exact .refl
  · exact Acts.ite (probeCancel_acts ..) (probeTest_acts s)
  all_goals exact Acts.ite (probeCancel_acts ..) (Acts.ite (probeAbort_acts s) .refl)

theorem probeRemoved_acts (z : Zone) (r : CancelReason) (s : State) : Acts s (probeRemoved z r s) := by
  refine Acts.ite ?_ .refl
  split
  · exact .refl
  · exact .refl
  all_goals exact probeCancel_acts ..

theorem periodOpen_acts (s : State) : Acts s (Machine.periodOpen s) := by
  unfold Machine.periodOpen
  split
  · next h => exact setRun_acts h fun e d w b q _ => by cases q; omega
  · exact .refl

theorem periodEnd_acts (n : Nat) (s : State) : Acts s (Machine.periodEnd n s) := by
  have h := (closeWindow_acts s).trans (copySettings_acts _)
  unfold Machine.periodEnd
  dsimp only
  split
  · next k =>
    exact Acts.ite
      (Acts.ite
        (h.trans (UnitAct.probe (.of (.inr (.inl (ProbeState.ne_idle k ProbeState.noConfusion))) fun c => c.state (ProbeState.marks_of_toOpen rfl))).run)
        (h.trans (probeMove_acts ..)))
      (h.trans (probeIdle_acts ..))
  · exact h.trans (probeIdle_acts ..)
  all_goals exact h

/-- A window changed in an open period. -/
theorem window_acts {e d : Nat} {w : Window} {b : Bool} (w' : Window)
    (h : s.probe.state.run = some (.opened e d (some w) b)) :
    Acts s (s.updProbe fun x => { x with state := x.state.setRun (.opened e d (some w') b) }) :=
  setRun_acts h fun _ _ _ _ q k => by cases q; exact k.2.1 _ _ _ _ h

theorem probeWork_acts (s : State) : Acts s (probeWork s) := by
  unfold probeWork
  split
  · next h => exact Acts.ite (window_acts _ h) .refl
  · exact .refl

theorem probeListen_acts (x : Vector Sample 8) (s : State) : Acts s (probeListen x s) := by
  unfold probeListen
  split
  · next h => exact window_acts _ h
  · exact .refl

theorem probeStopped_acts (s : State) : Acts s (probeStopped s) := by
  unfold probeStopped
  split
  · exact .refl
  · exact .refl
  · exact idle_acts s
  · exact probeIdle_acts ..
  · next r h =>
    exact (UnitAct.probe (.of (.inr (.inl (ProbeState.ne_idle h ProbeState.noConfusion))) fun k => k.state fun e d w b q =>
      k.2.1 e d w b (by rw [h]; exact q))).run

/-! ### Routes -/

theorem changeRoutes_acts {z : Zone} {l : List RouteEntry} (h : RoutesSound s z l) : Acts s (changeRoutes z l s) :=
  (PowerAct.routes h).run.trans (probeWinner_acts ..)

theorem raiseEvicting_acts {z : Zone} {e x : RouteEntry} (he : e.within = true)
    (h : raiseOutcome s z e = .evicted x) : Acts s (raiseEvicting z e x s) := by
  have k := (PowerAct.routes (evicting_sound he h)).run.trans
    (PortAct.raise x.port (.routeEvicted z x.source x.level e.source e.level)).run
  exact (Acts.ite (k.trans (probeRemoved_acts ..)) k).trans (probeWinner_acts ..)

theorem raiseIn_acts {e : RouteEntry} (he : e.within = true) (z : Zone) (s : State) (r : RouteReport) :
    Acts s (raiseIn e z s r).1 := by
  unfold raiseIn
  split
  · next h => exact changeRoutes_acts (put_sound he h)
  · next h => exact raiseEvicting_acts he h
  · exact .refl
  · exact .refl

theorem dropIn_acts (p : Port) (src : Source) (z : Zone) (s : State) (r : RouteReport) :
    Acts s (dropIn p src z s r).1 := by
  unfold dropIn
  split
  · exact .refl
  · dsimp only
    split
    · exact changeRoutes_acts (filter_sound s z _)
    · exact .refl

theorem dropAllIn_acts (p : Port) (z : Zone) (s : State) (r : RouteReport) : Acts s (dropAllIn p z s r).1 := by
  unfold dropAllIn
  dsimp only
  split
  · exact .refl
  · exact changeRoutes_acts (filter_sound s z _)

theorem overZones_acts {f : Zone → State → RouteReport → State × RouteReport}
    (h : ∀ z s r, Acts s (f z s r).1) (zs : List Zone) (s : State) : Acts s (overZones f zs s).1 :=
  List.foldlRecOn (motive := fun x : State × RouteReport => Acts s x.1) zs _ .refl
    fun x hx z _ => hx.trans (h z x.1 x.2)

theorem fadeFinish_acts (z : Zone) (s : State) : Acts s (fadeFinish z s) :=
  (PowerAct.fadeRest z).run.trans (probeTest_acts _)

theorem wakeFinish_acts {z : Zone} {n : Nat} (h : s.powerOf z = .waking n) : Acts s (wakeFinish z s) :=
  (PowerAct.wake h).run.trans (probeTest_acts _)

theorem drainFinish_acts {z : Zone} {d n : Nat} (h : s.powerOf z = .draining d n) : Acts s (drainFinish z s) :=
  (PowerAct.park h).run.trans (probeTest_acts _)

theorem drainLeft_some {p : PowerState} {n : Nat} (h : p.drainLeft = some n) : ∃ d, p = .draining d n := by
  cases p <;> cases h
  exact ⟨_, rfl⟩

theorem raiseLost_acts (z : Zone) (l : List RouteEntry) (p : Port) (s : State) : Acts s (raiseLost z l p s) :=
  Acts.ite .refl (PortAct.raise ..).run

/-! ### The change queue -/

theorem acceptChange_acts {p : Port} {code : Nat} {z : ZoneTarget} {c : Change} {l : List Nat} {b : List Byte}
    (h : Offered s { port := p, zone := z, change := c, bypass := 0 }) : Acts s (acceptChange p code z c l b s) := by
  refine Acts.ite (answer_acts ..) ?_
  split
  · exact answer_acts ..
  all_goals exact (SetAct.offer h).run.answer ..

/-! ### Sensors and settings -/

theorem roundOn_acts (n : Nat) (l : List (Fin 8)) (s : State) : Acts s (roundOn n l s) := by
  unfold roundOn
  split <;> exact (SetAct.round ..).run

theorem pollExpiry_acts (s : State) : Acts s (pollExpiry s) :=
  Acts.ite ((SetAct.timer).run.trans (roundOn_acts ..)) (SetAct.timer).run

/-- A record with its count of failures raised to no more than 3, or set back, keeps its limits. -/
theorem SensorRecord.Counted.of {r r' : SensorRecord} (failures : r'.failures ≤ 3)
    (frames : r'.framesSince ≤ r.framesSince ∨ r'.framesSince ≤ 65535000) (h : r.Counted) : r'.Counted :=
  ⟨failures, frames.elim (fun k => k.trans h.2) id⟩

theorem acceptReading_acts (n : Fin 8) (v : Int) (s : State) : Acts s (acceptReading n v s) := by
  have h : Acts s (s.updSensor n fun r =>
      { r with status := .valid, lastAccepted := some v, failures := 0, framesSince := 0, fresh := s.atMark }) :=
    (SetAct.sensor (.of (Nat.zero_le _) (.inl (Nat.zero_le _)))).run
  exact (Acts.ite (h.trans (PortAct.raise .C (.sensorRecovered n v)).run) h).trans (sensorNotice_acts n _)

theorem countFailure_acts (n : Fin 8) (f : Failure) (s : State) : Acts s (countFailure n f s) := by
  have h : Acts s (s.updSensor n fun r =>
      { r with
        failures := min ((s.sensor n).failures + 1) 3, lastFailure := some f,
        status := if min ((s.sensor n).failures + 1) 3 = 3 ∧ (s.sensor n).status ≠ .fault then .fault
          else r.status }) :=
    (SetAct.sensor (.of (Nat.min_le_right ..) (.inl le_rfl))).run
  have k := h.trans (PortAct.raise .C (.sensorFault n f.kind)).run
  exact Acts.ite (Acts.ite (k.trans (sensorNotice_acts n _)) k) h

theorem applyOutcome_acts (n : Fin 8) (o : Outcome) (s : State) : Acts s (applyOutcome n o s) := by
  cases o with
  | accepted v => exact acceptReading_acts n v s
  | failed f => exact countFailure_acts n f s

theorem becomeStale_acts (n : Fin 8) (s : State) : Acts s (becomeStale n s) :=
  (SetAct.sensor fun h => h).run.trans (sensorNotice_acts n _)

theorem voidIfInFlight_acts (n : Fin 8) (s : State) : Acts s (voidIfInFlight n s) := by
  unfold voidIfInFlight
  split
  · exact Acts.ite (SetAct.round ..).run .refl
  · exact .refl

theorem noticeIfLeft_acts (n : Fin 8) (b : SensorStatus) (s : State) : Acts s (noticeIfLeft n b s) :=
  Acts.ite (sensorNotice_acts n s) .refl

theorem setupRecord_counted (a b : SensorFields) {r : SensorRecord} (h : r.Counted) : (setupRecord a b r).Counted := by
  unfold setupRecord
  split
  · exact h
  · exact ⟨Nat.zero_le _, le_rfl⟩

theorem setupSlot_acts (n : Fin 8) {f : SensorFields} (h : 0x08 ≤ f.address ∧ f.address ≤ 0x77) (s : State) :
    Acts s (setupSlot n f s) :=
  (SetAct.sensor (setupRecord_counted _ f)).run.trans (SetAct.sensorFields n h).run

theorem autoRecord_counted (b : Bool) {r : SensorRecord} (h : r.Counted) : (autoRecord b r).Counted := by
  unfold autoRecord
  split
  · exact h
  · exact ⟨Nat.zero_le _, h.2⟩

theorem applySettings_acts {x : Settings} (h : RangeInv s → x.within = true) : Acts s (applySettings x s) := by
  have k : Acts s { s with settings := x, queue := lowerBypass x.bypassMax s.queue } := (SetAct.settings h).run
  exact Acts.ite k (k.trans (tRefChanged_acts _))

/-! ### The store -/

/-- A change of the store that keeps its sectors, with no more recalls and no new captured contents. -/
theorem StoreKept.of {x : StoreUnit} (starting : x.state = .starting ↔ s.store.state = .starting)
    (sectors : x.sectors = s.store.sectors) (recalls : s.store.recalls.length ≤ 4 → x.recalls.length ≤ 4)
    (op : ∀ o, x.op = some o → ∃ o', s.store.op = some o' ∧ o.captured = o'.captured) : StoreKept s x := by
  refine ⟨starting, fun h => ⟨sectors ▸ h.1, recalls h.2⟩, fun ⟨_, _, _, h, k, _⟩ => ⟨sectors ▸ h, fun o e => ?_⟩⟩
  obtain ⟨o', e', c⟩ := op o e
  exact c ▸ k o' e'

/-- A change of the store alone. -/
theorem store_acts (h : t = { s with store := t.store }) (k : StoreKept s t.store) : Acts s t := by
  rw [h]
  exact (UnitAct.store k).run

theorem updStore_acts {f : StoreUnit → StoreUnit} (h : StoreKept s (f s.store)) : Acts s (s.updStore f) :=
  (UnitAct.store h).run

set_option Elab.async true in
theorem sectors_set (l : Vector Sector 41) (m n : SectorNo) (x : Sector) :
    (l.set n x)[m] = if m = n then x else l[m] := by
  split
  · next e => subst e; simp
  · next e =>
    have k : n.val ≠ m.val := fun q => e (Fin.ext q.symm)
    simp [k]

set_option Elab.async true in
/-- A sector changed keeps its erase count in range and takes contents in range. -/
theorem updSector_acts {n : SectorNo} {f : Sector → Sector}
    (count : (s.sector n).eraseCount ≤ 65535 → (f (s.sector n)).eraseCount ≤ 65535)
    (contents : RangeInv s → (f (s.sector n)).contents.within = true) : Acts s (s.updSector n f) := by
  refine store_acts rfl ⟨Iff.rfl, fun h => ⟨fun m => ?_, h.2⟩, fun h => ⟨fun m => ?_, h.2.2.2.2.1⟩⟩
  · show ((s.store.sectors.set n _)[m]).eraseCount ≤ 65535
    rw [sectors_set]
    split
    · exact count (h.1 n)
    · exact h.1 m
  · show ((s.store.sectors.set n _)[m]).contents.within = true
    rw [sectors_set]
    split
    · exact contents h
    · exact h.2.2.2.1 m

theorem lowerOverride_acts (s : State) : Acts s (lowerOverride s) :=
  updStore_acts (.of Iff.rfl rfl id fun o e => ⟨o, e, rfl⟩)

theorem Phase.running_ne (x : Phase) : x.running ≠ .starting := by cases x <;> nofun

theorem storeGoOn_acts (h : s.starting = false) : Acts s (storeGoOn s) := by
  have running : ∀ {x : StoreState}, x ≠ .starting → (x = .starting ↔ s.store.state = .starting) := fun hx =>
    ⟨fun e => absurd e hx, fun e => by simp [State.starting, e] at h⟩
  unfold storeGoOn
  split
  · next e => exact updStore_acts (.of (running nofun) rfl (fun k => by rw [e] at k; simp at k ⊢; omega)
      fun o e => ⟨o, e, rfl⟩)
  · exact updStore_acts (.of (running (Phase.running_ne _)) rfl id fun o e => ⟨o, e, rfl⟩)
  · exact updStore_acts (.of (running nofun) rfl id fun o e => ⟨o, e, rfl⟩)

theorem starting_iff : s.starting = true ↔ s.store.state = .starting := by simp [State.starting]

theorem not_starting_iff : s.starting = false ↔ s.store.state ≠ .starting := by simp [State.starting]

theorem recordFault_acts (f : Option StoreFault) (s : State) : Acts s (s.updStore fun x => { x with fault := f }) :=
  updStore_acts (.of Iff.rfl rfl id fun o e => ⟨o, e, rfl⟩)

theorem endOperation_acts (op : Operation) (f : Option StoreFaultKind) (h : s.starting = false) :
    Acts s (endOperation op f s) := by
  have ended : Acts s (s.updStore fun x => { x with op := none }) := 
    updStore_acts (.of Iff.rfl rfl id fun o (e : (none : Option Operation) = some o) => nomatch e)
  have k := ended.trans (storeGoOn_acts (s := s.updStore fun x => { x with op := none }) h)
  unfold endOperation
  dsimp only
  split
  · exact (k.trans (PortAct.raise ..).run).trans (lowerOverride_acts _)
  · exact ((k.trans (recordFault_acts _ _)).trans (PortAct.raise ..).run).trans
      (lowerOverride_acts _)

theorem leaveCorrupt_acts (n : SectorNo) (s : State) : Acts s (leaveCorrupt n s) :=
  updStore_acts (.of Iff.rfl rfl id fun o e => ⟨o, e, rfl⟩)

/-- The program phase begins with the contents captured. -/
theorem programming_acts {op : Operation} (n : Nat) (h : s.starting = false) (hop : s.store.op = some op) :
    Acts s (s.updStore fun x => { x with state := .programming, op := some { op with phase := .program, left := n } }) :=
  updStore_acts (.of ⟨nofun, fun e => absurd e (not_starting_iff.mp h)⟩ rfl id
    fun o e => ⟨op, hop, by cases e; rfl⟩)

theorem erasePassed_acts {op : Operation} (h : s.starting = false) (hop : s.store.op = some op) :
    Acts s (erasePassed op s) := by
  have erased : Acts s (s.updSector op.sector fun x =>
      { x with
        lock := false, state := .blank, contents := .erased, check := 0#32,
        mark := x.mark && decide (op.command ≠ .eraseSector) }) := updSector_acts id fun _ => rfl
  have k := erased.trans (leaveCorrupt_acts op.sector _)
  exact Acts.ite (k.trans (endOperation_acts op none h)) (k.trans (programming_acts _ h hop))

theorem eraseFailed_acts (op : Operation) (h : s.starting = false) : Acts s (eraseFailed op s) :=
  Acts.trans (updSector_acts id fun _ => rfl) (endOperation_acts op _ h)

theorem programPassed_acts {op : Operation} (h : s.starting = false) (hop : s.store.op = some op) :
    Acts s (programPassed op s) := by
  have programmed : Acts s (s.updSector op.sector fun x =>
      { x with
        state := .valid, contents := op.captured, check := op.captured.checkValue, mark := false }) :=
    updSector_acts id fun k => k.2.2.2.2.1 op hop
  exact (programmed.trans (leaveCorrupt_acts op.sector _)).trans (endOperation_acts op none h)

theorem programFailed_acts (op : Operation) (h : s.starting = false) : Acts s (programFailed op s) :=
  Acts.trans (updSector_acts id fun _ => rfl) (endOperation_acts op _ h)

theorem recallFailed_acts (p : Port) (s : State) : Acts s (recallFailed p s) :=
  Acts.ite (updStore_acts (.of Iff.rfl rfl id fun o e => ⟨o, e, rfl⟩)) .refl

theorem serveRecall_acts (s : State) : Acts s (serveRecall s) := by
  unfold serveRecall
  split
  · next e => exact storeGoOn_acts (not_starting_iff.mpr (by rw [e]; nofun))
  · next e => exact updStore_acts (.of ⟨nofun, fun k => by rw [e] at k; cases k⟩ rfl id fun o e => ⟨o, e, rfl⟩)
  · next e => exact updStore_acts (.of ⟨nofun, fun k => by rw [e] at k; cases k⟩ rfl id fun o e => ⟨o, e, rfl⟩)
  all_goals exact .refl

theorem failRecall_acts (r : Recall) (w : SceneFailure) (s : State) : Acts s (failRecall r w s) :=
  (recallFailed_acts r.port s).trans (raiseAll_acts ..)

theorem succeedRecall_acts (r : Recall) (s : State) : Acts s (succeedRecall r s) :=
  Acts.ite (updStore_acts (.of Iff.rfl rfl id fun o e => ⟨o, e, rfl⟩)) .refl

theorem sceneOf_some {x : Sector} {b : Bool} {l : Scene} (h : sceneOf x b = some l) : x.contents = .scene l := by
  unfold sceneOf at h
  split at h
  · next e =>
    split at h
    · rw [e]; exact congrArg _ (Option.some.inj h)
    · cases h
  all_goals cases h

theorem readEnd_acts (r : Recall) (b : Bool) (s : State) : Acts s (readEnd r b s) := by
  unfold readEnd
  split
  · exact Acts.trans (updSector_acts id fun _ => rfl) (failRecall_acts ..)
  · next items k =>
    have h : Offered s { port := r.port, zone := .all, change := .scene items, bypass := 0 } :=
      ⟨rfl, nofun, fun i => by
        have := i.2.2.2.1 (sceneSector r.scene)
        rw [sceneOf_some k] at this
        exact this⟩
    dsimp only
    split
    · exact failRecall_acts ..
    all_goals exact (SetAct.offer h).run.trans (succeedRecall_acts r _)

set_option Elab.async true in
theorem beginWrite_acts (p : Port) (c : WriteCommand) (n : SectorNo) {x : Contents}
    (hx : RangeInv s → x.within = true) (h : s.starting = false) : Acts s (beginWrite p c n x s) := by
  have h' := not_starting_iff.mp h
  unfold beginWrite
  split
  · refine store_acts rfl ⟨⟨nofun, fun e => absurd e h'⟩, fun k => ⟨fun m => ?_, k.2⟩, fun k => ⟨fun m => ?_,
      fun o e => Option.some.inj e ▸ hx k⟩⟩
    · show ((s.store.sectors.set n _)[m]).eraseCount ≤ 65535
      rw [sectors_set]
      split
      · exact Nat.min_le_right ..
      · exact k.1 m
    · show ((s.store.sectors.set n _)[m]).contents.within = true
      rw [sectors_set]
      split
      · exact k.2.2.2.1 n
      · exact k.2.2.2.1 m
  · exact store_acts rfl ⟨⟨nofun, fun e => absurd e h'⟩, id, fun k => ⟨k.2.2.2.1, fun o e => Option.some.inj e ▸ hx k⟩⟩

set_option Elab.async true in
theorem writeFailure_none {c : WriteCommand} {b m : Bool} {n : Option SectorNo} (h : writeFailure s c b n m = none) :
    s.starting = false := by
  unfold writeFailure at h
  split at h
  · cases h
  · next k => simpa using k

theorem writeCommand_acts {p : Port} {c : WriteCommand} {b : Bool} {n : Option SectorNo} {m : Bool} {x : Contents}
    (hx : RangeInv s → x.within = true) : Acts s (writeCommand p c b n m x s) := by
  unfold writeCommand
  split
  · next h => exact (beginWrite_acts p c _ hx (writeFailure_none h)).answer ..
  · exact (lowerOverride_acts s).answer ..
  · exact (lowerOverride_acts s).answer ..

/-! ### The audio clock -/

theorem serviceInsert_perm (s : State) (z : Zone) (l : List Zone) : (serviceInsert s z l).Perm (z :: l) := by
  induction l with
  | nil => exact .refl _
  | cons y l ih =>
    simp only [serviceInsert]
    split
    · exact .refl _
    · exact (ih.cons y).trans (.swap z y l)

/-- The wake wait list holds the zones in WAKE_WAIT, each once (R135). -/
theorem wakeList_perm (s : State) : s.wakeList.Perm (allZones.filter fun z => decide (s.powerOf z = .wakeWait)) := by
  unfold State.wakeList
  generalize allZones.filter _ = l
  induction l with
  | nil => exact .refl _
  | cons z l ih => exact (serviceInsert_perm s z _).trans (ih.cons z)

theorem granted_waiting {z : Zone} (h : z ∈ s.granted) : s.powerOf z = .wakeWait := by
  have k := (wakeList_perm s).mem_iff.mp (List.mem_of_mem_take h)
  simpa using (List.mem_filter.mp k).2

theorem granted_nodup (s : State) : s.granted.Nodup :=
  ((wakeList_perm s).nodup_iff.mpr (allZones_nodup.filter _)).sublist (List.take_sublist ..)

/-- A change of a zone's power state is that zone's alone. -/
theorem powerOf_setPower (z y : Zone) (p : PowerState) (s : State) :
    (setPower z p s).powerOf y = if y = z then p else s.powerOf y := by
  have written : ((s.updPower z fun _ => { state := p, framesInState := 0, fresh := s.atMark }).powerOf y) =
      if y = z then p else s.powerOf y := by
    rw [State.powerOf, State.updPower, State.zone_updZone]
    split <;> rfl
  rw [← written]
  have gained := updGain_only (s.updPower z fun _ => { state := p, framesInState := 0, fresh := s.atMark }) z fun g =>
    g.onPower (s.powerOf z) p s.sampleIndex
  have left := Only.ite ((s.powerOf z).heard = true ∧ ¬ p.heard = true)
    (gained.comp (n := [.gain, .eq, .eqWait]) (eqLeave_only z _) rfl rfl) (gained.mono rfl)
  have stopped := Only.ite (p.inService = true) left (left.comp (eqStop_only z _) rfl rfl)
  exact congrArg PowerUnit.state (stopped.same .power (by decide) y).symm

theorem powerOf_grant_other {z y : Zone} (s : State) (h : y ≠ z) : (grant z s).powerOf y = s.powerOf y := by
  unfold grant
  dsimp only
  split <;> simp [powerOf_setPower, h]

theorem grants_acts (l : List Zone) (nodup : l.Nodup) (waiting : ∀ z ∈ l, s.powerOf z = .wakeWait) :
    Acts s (s.eachOf l grant) := by
  induction l generalizing s with
  | nil => exact .refl
  | cons z l ih =>
    obtain ⟨hz, hl⟩ := List.nodup_cons.mp nodup
    refine (PowerAct.grant (waiting z List.mem_cons_self)).run.trans (ih hl fun y hy => ?_)
    rw [powerOf_grant_other s (by rintro rfl; exact hz hy)]
    exact waiting y (List.mem_cons_of_mem _ hy)

theorem powerOf_history (s : State) (h : Vector Nat 100) (z : Zone) :
    State.powerOf { s with history := h } z = s.powerOf z := rfl

theorem limiterWork_acts (s : State) : Acts s (limiterWork s) :=
  (PlainAct.history _).run.trans (grants_acts s.granted (granted_nodup s)
    fun z hz => (powerOf_history s _ z).trans (granted_waiting hz))

theorem doWork_acts (w : MarkWork) (s : State) : Acts s (doWork w s) := by
  cases w with
  | transfer => exact (RecordAct.transfer).run
  | slew => exact Acts.eachZone (fun z s => (AudioAct.slew z).run) s
  | limiter => exact (limiterWork_acts s).trans (probeTest_acts _)
  | gain => exact Acts.eachZone (fun z s => (AudioAct.gain z).run) s
  | probe => exact probeWork_acts s
  | amplifier => exact (PlainAct.amplifier _).run

theorem supervisionExpire_acts (s : State) : Acts s (supervisionExpire s) := by
  have h : Acts s { s with supervision := { s.supervision with watch := .lost } } :=
    (UnitAct.supervision (s := s) (x := { s.supervision with watch := .lost }) fun h => ⟨h.1, fun _ e => by cases e⟩).run
  exact h.trans (raiseAll_acts ..)

theorem wakeDue_iff {z : Zone} : wakeDue z s = true ↔ s.powerOf z = .waking 0 := decide_eq_true_iff

theorem drainDue_iff {z : Zone} : drainDue z s = true ↔ (s.powerOf z).drainLeft = some 0 := decide_eq_true_iff

theorem settle_acts (s : State) : Acts s (settle s) := by
  unfold settle
  dsimp only
  refine Acts.trans ?_ (periodOpen_acts _)
  refine Acts.trans ?_ (takeIf_acts fun _ => periodEnd_acts 0 _)
  refine Acts.trans ?_ (takeIf_acts fun _ => closeWindow_acts _)
  refine Acts.trans ?_ (takeIf_acts fun _ => (Act.complete).run)
  refine Acts.trans ?_ (Acts.eachZone (fun z s => takeIf_acts fun h => ?_) _)
  · refine Acts.trans ?_ (Acts.eachZone (fun z s => takeIf_acts fun h => wakeFinish_acts (wakeDue_iff.mp h)) _)
    refine Acts.trans ?_ (takeIf_acts fun _ => pollExpiry_acts _)
    refine Acts.trans ?_ (takeIf_acts fun _ => supervisionExpire_acts _)
    exact Acts.foldl (fun s n => takeIf_acts fun _ => becomeStale_acts n s) allSlots s
  · obtain ⟨d, e⟩ := drainLeft_some (drainDue_iff.mp h)
    exact drainFinish_acts e

theorem settleSamples_acts (s : State) : Acts s (settleSamples s) :=
  (Acts.eachZone (fun z _ => takeIf_acts fun _ => (PowerAct.crossfadeEnd z).run) s).trans
    (Acts.eachZone (fun z s => takeIf_acts fun _ => fadeFinish_acts z s) _)

theorem samplePeriod_acts (x : Vector Sample 8) (s : State) : Acts s (samplePeriod x s) := by
  unfold samplePeriod
  dsimp only
  refine Acts.trans ?_ (probeListen_acts x _)
  exact (PlainAct.index _ false).run.trans (Acts.eachZone (fun z s => (AudioAct.sample x _ _ z).run) _)

theorem execFrameMark_acts (order : List MarkWork) (s : State) : Leaves (Acts s) (execFrameMark order s) :=
  .next (((settle_acts s).trans (Act.tick).run).trans (Acts.foldl (fun s w => doWork_acts w s) _ _))

theorem execSamplePeriod_acts (x : Vector Sample 8) (s : State) : Leaves (Acts s) (execSamplePeriod x s) := by
  unfold execSamplePeriod
  dsimp only
  split
  · intro _ e; cases e
  · exact .next (((settle_acts s).trans (settleSamples_acts _)).trans (samplePeriod_acts x _))

/-! ### The values a command asks for lie in range (R20, R21) -/

theorem limitNat_bounds {lo hi : Nat} (h : lo ≤ hi) (x : Int) : lo ≤ limitNat lo hi x ∧ limitNat lo hi x ≤ hi := by
  unfold limitNat limit
  omega

set_option Elab.async true in
theorem geometryOf_within (g : GeometryArg) (r : Option Zone) : (geometryOf g r).within = true := by
  have w : ∀ n : Fin 8, limitNat 0 15 g.weights[n] ≤ 15 := fun n => (limitNat_bounds (by decide) _).2
  simp only [Geometry.within, geometryOf, limit_inRange (by decide : (0 : Int) ≤ 400000),
    limit_inRange (by decide : (0 : Int) ≤ 960), limit_inRange (by decide : (-6400 : Int) ≤ 6400), Bool.true_and]
  simpa [Vector.mem_toList_iff, Vector.mem_ofFn] using fun i hi => w ⟨i, hi⟩

theorem timingOf_within (t : TimingArg) : (timingOf t).within = true := by
  have a := limitNat_bounds (by decide : 1 ≤ 64) t.slew
  have b := limitNat_bounds (by decide : 0 ≤ 255) t.fadeLength
  have c := limitNat_bounds (by decide : 0 ≤ 1000) t.wakeTime
  have d := limitNat_bounds (by decide : 0 ≤ 60000) t.parkHang
  exact decide_eq_true ⟨a.1, a.2, b.2, c.2, d.2⟩

theorem checkOption_some {α β : Type} {f : α → Option β} {a : Option α} {b : Option β}
    (h : checkOption f a = some b) : (a = none ∧ b = none) ∨ ∃ x y, a = some x ∧ b = some y ∧ f x = some y := by
  cases a with
  | none => exact .inl ⟨rfl, (Option.some.inj h).symm⟩
  | some x =>
    obtain ⟨y, k, e⟩ := Option.map_eq_some_iff.mp h
    exact .inr ⟨x, y, rfl, e.symm, k⟩

theorem coupling_within {a : Option CouplingArg} {k : Option Coupling} (h : checkOption couplingOf a = some k) :
    k.all Coupling.within = true := by
  rcases checkOption_some h with ⟨-, rfl⟩ | ⟨x, y, -, rfl, e⟩
  · rfl
  · obtain ⟨l, -, rfl⟩ := Option.map_eq_some_iff.mp e
    exact limit_inRange (by decide) _

theorem allocation_within {a : Option AllocArg} {k : Option Allocation} (h : checkOption allocationOf a = some k) :
    k.all Allocation.within = true := by
  rcases checkOption_some h with ⟨-, rfl⟩ | ⟨x, y, -, rfl, e⟩
  · rfl
  · unfold allocationOf at e
    split at e
    · next c => cases e; exact decide_eq_true c
    · cases e

/-- With no overlap found no other zone's range shares a page (R61). -/
theorem overlapped_none {z : Zone} {a : Allocation} (h : overlapped s z a = none) {y : Zone} {b : Allocation}
    (hy : y ≠ z) (hb : (s.active y).allocation = some b) : a.overlaps b = false := by
  have k := List.findSome?_eq_none_iff.mp h y (by simpa using hy)
  rw [hb] at k
  dsimp only at k
  split at k
  · cases k
  · next c => simpa using c

theorem settingsOf_within (a : SystemArg) (h : RangeInv s) : (settingsOf a s.settings.sensors).within = true := by
  obtain ⟨-, -, -, -, -, w⟩ := h
  simp only [Settings.within, Bool.and_eq_true] at w ⊢
  have b := limitNat_bounds (by decide : 0 ≤ 64) a.deadband
  have c := limitNat_bounds (by decide : 1 ≤ 15) a.bypassMax
  have d := limitNat_bounds (by decide : 1 ≤ 8) a.wakeMax
  have e := limitNat_bounds (by decide : 1 ≤ 100) a.wakeWindow
  have f := limitNat_bounds (by decide : 1 ≤ 60) a.pollInterval
  have g := limitNat_bounds (by decide : 5 ≤ 600) a.staleLimit
  have i := limitNat_bounds (by decide : 8 ≤ 160) a.spikeLimit
  simp only [decide_eq_true_eq]
  exact ⟨⟨⟨⟨⟨⟨⟨⟨limit_inRange (by decide) _, b.2⟩, c⟩, d⟩, e⟩, f⟩, g⟩, i⟩, w.2⟩

theorem superviseTimeout_bounds {n : Nat} (t : Int) (h : 100 ≤ n ∧ n ≤ 10000) :
    100 ≤ superviseTimeout n t ∧ superviseTimeout n t ≤ 10000 := by
  unfold superviseTimeout
  split
  · exact h
  · exact limitNat_bounds (by decide) t

theorem capturedScene_within (h : RangeInv s) : (capturedScene s).within = true := by
  have w : ∀ z, gainWithin (s.active z).gain = true := fun z => by
    have k := (h.1 z).1
    simp only [ZoneRecord.within, Bool.and_eq_true] at k
    exact k.1.2
  simpa [Scene.within, capturedScene, Vector.mem_toList_iff, Vector.mem_ofFn] using fun i hi => w ⟨i, hi⟩

theorem active_contents (z : Zone) (h : RangeInv s) : (Contents.zone (s.active z)).within = true := by
  have k := (h.1 z).1
  simp only [ZoneRecord.within, Bool.and_eq_true] at k
  have a := k.1.1.1.1.1
  cases e : (s.active z).allocation with
  | none => simp [Contents.within, e]
  | some x =>
    rw [e] at a
    simp only [Contents.within, e, Option.all_some, Allocation.within, decide_eq_true_eq] at a ⊢
    exact ⟨a.1, a.2.1, a.2.2.1⟩

theorem adoptedGeometry_within (z : Zone) (l : Int) (h : RangeInv s) :
    (adoptedGeometry (s.shadow z) l).within = true := by
  have k := (h.1 z).2
  simp only [ZoneRecord.within, Bool.and_eq_true, ZoneRecord.geometry, Geometry.within] at k
  obtain ⟨⟨⟨⟨⟨-, ⟨⟨⟨-, hp⟩, ht⟩, hw⟩⟩, -⟩, -⟩, -⟩, -⟩ := k
  simp only [Geometry.within, adoptedGeometry, Bool.and_eq_true]
  exact ⟨⟨⟨limit_inRange (by decide) _, hp⟩, ht⟩, hw⟩

theorem probeSettingsOf_within (a : ProbeArg) (z : Zone) (n : Fin 8) (b : Bool) :
    (probeSettingsOf a z n b).within := by
  have p := limitNat_bounds (by decide : 10 ≤ 2000) a.period
  have g := inRange_iff.mp (limit_inRange (by decide : (-160 : Int) ≤ 0) a.gain)
  exact ⟨p, limitNat_bounds (by decide) _, g, limitNat_bounds (by decide) _,
    limitNat_bounds ((by decide : 1 ≤ 10).trans p.1) _⟩

end Sys2Proof.Machine
end

section
/-! PROOFS. The commands of the links, the rows and the step as runs of acts: what every act keeps, every step keeps. -/

namespace Sys2Proof.Machine

-- One theorem at a time, and a long one, marked, on a thread of its own: the compile has 22 GiB. The two linters do
-- not see into such a proof.
set_option Elab.async false
set_option linter.unusedTactic false
set_option linter.unreachableTactic false

variable {s t u : State}

/-! ### The commands of the links (R189) -/

theorem Leaves.acts {o : Answer} (h : Leaves (Acts s) o) {P : State → Prop}
    (act : ∀ {s t}, P s → Act s t → P t) (hs : P s) : Leaves P o := fun t e => (h t e).keeps act hs

/-- A change without a zone of its own is offered for one zone or for all; a COUPLING for one (R20). -/
theorem Offered.of {p : Port} {z : ZoneTarget} {c : Change} (one : c.kind = .coupling → z ≠ .all)
    (ranged : RangeInv s → c.within = true) : Offered s { port := p, zone := z, change := c, bypass := 0 } :=
  ⟨rfl, one, ranged⟩

theorem takeAllocate_acts (p : Port) (zone : Nat) (a : Option AllocArg) (s : State) :
    Leaves (Acts s) (takeAllocate p zone a s) :=
  .next (guarded_acts fun hs => checked_acts fun z _ => checked_acts fun a ha => by
    split
    · exact answer_acts ..
    · next hp =>
      split
      · exact answer_acts ..
      · next ho =>
        refine (RecordAct.allocate ⟨hs, not_not.mp hp, allocation_within ha, fun y b x hy hb hx => ?_⟩).run.answer ..
        subst hx
        exact overlapped_none ho hy hb)

theorem takeSensorSetup_acts (p : Port) (slot : Nat) (e : Choice) (a : Nat) (s : State) :
    Leaves (Acts s) (takeSensorSetup p slot e a s) :=
  .next (guarded_acts fun _ => checked_acts fun n _ => checked_acts fun _ _ => checked_acts fun a ha => by
    have address : 0x08 ≤ a ∧ a ≤ 0x77 := by
      unfold sensorAddress at ha
      split at ha
      · next h => cases ha; exact h
      · cases ha
    exact (((voidIfInFlight_acts n s).trans (setupSlot_acts n address _)).trans (noticeIfLeft_acts n _ _)).answer ..)

theorem takeSensorManual_acts (p : Port) (slot : Nat) (v : Int) (s : State) :
    Leaves (Acts s) (takeSensorManual p slot v s) :=
  .next (guarded_acts fun _ => checked_acts fun n _ =>
    (((voidIfInFlight_acts n s).trans (SetAct.sensor fun h => ⟨Nat.zero_le _, h.2⟩).run).trans
      (sensorNotice_acts n _)).answer ..)

theorem takeSensorAuto_acts (p : Port) (slot : Nat) (s : State) : Leaves (Acts s) (takeSensorAuto p slot s) :=
  .next (guarded_acts fun _ => checked_acts fun n _ =>
    (((voidIfInFlight_acts n s).trans (SetAct.sensor (autoRecord_counted _)).run).trans
      (noticeIfLeft_acts n _ _)).answer ..)

theorem takeEnableZone_acts (p : Port) (zone : Nat) (s : State) : Leaves (Acts s) (takeEnableZone p zone s) :=
  .next (guarded_acts fun hs => checked_acts fun z _ => by
    dsimp only
    split
    · exact answer_acts ..
    · next hp =>
      split
      · exact answer_acts ..
      · next ha => exact (ServiceAct.enable hs (not_not.mp hp) ha).run.answer ..)

theorem takeDisableZone_acts (p : Port) (zone : Nat) (s : State) : Leaves (Acts s) (takeDisableZone p zone s) :=
  .next (guarded_acts fun hs => checked_acts fun z _ => by
    dsimp only
    split
    · exact answer_acts ..
    · next hp => exact Acts.ite (answer_acts ..) ((ServiceAct.disable hs hp).run.answer ..))

theorem portSource_some {n : Nat} {src : Source} (h : portSource n = some src) : src.val < 8 := by
  obtain ⟨x, -, rfl⟩ := Option.map_eq_some_iff.mp h
  exact x.isLt

theorem takeRouteRaise_acts (p : Port) (zones : List Nat) (source level : Nat) (s : State) :
    Leaves (Acts s) (takeRouteRaise p zones source level s) :=
  .next (guarded_acts fun _ => checked_acts fun _ _ => checked_acts fun src hsrc => by
    split
    · exact answer_acts ..
    · next hl =>
      have low := portSource_some hsrc
      have ceil : 1 ≤ ceiling p := by cases p <;> decide
      have within : RouteEntry.within { port := p, source := src, level := min level (ceiling p) } = true :=
        decide_eq_true ⟨by dsimp only; omega, Nat.min_le_right .., fun e => by dsimp only at e; omega⟩
      exact (overZones_acts (raiseIn_acts within) _ s).answer ..)

theorem takeRouteDrop_acts (p : Port) (zones : List Nat) (source : Nat) (s : State) :
    Leaves (Acts s) (takeRouteDrop p zones source s) :=
  .next (guarded_acts fun _ => checked_acts fun _ _ => checked_acts fun src _ =>
    (overZones_acts (dropIn_acts p src) _ s).answer ..)

theorem takeRouteDropAll_acts (p : Port) (s : State) : Leaves (Acts s) (takeRouteDropAll p s) := by
  have k := overZones_acts (dropAllIn_acts p) allZones s
  refine .next (guarded_acts fun _ => ?_)
  generalize overZones (dropAllIn p) allZones s = x at k ⊢
  exact k.answer ..

theorem takeProbeSetup_acts (p : Port) (a : ProbeArg) (s : State) : Leaves (Acts s) (takeProbeSetup p a s) :=
  .next (guarded_acts fun _ => checked_acts fun z _ => checked_acts fun n _ => checked_acts fun _ _ =>
    (UnitAct.probe ⟨fun _ _ h => h, fun k => ⟨⟨probeSettingsOf_within a z n _, k.1.2⟩, k.2⟩⟩).run.answer ..)

theorem takeProbeRun_acts (p : Port) (e : Option Choice) (s : State) : Leaves (Acts s) (takeProbeRun p e s) :=
  .next (guarded_acts fun hs => checked_acts fun edge _ => by
    refine Acts.ite (answer_acts ..) (Acts.ite (answer_acts ..) ?_)
    split
    · exact (UnitAct.probe (.of (.inr (.inr hs)) fun k => k.state (ProbeState.marks_of_none rfl))).run.answer ..
    · dsimp only
      have copied : ∀ b, Acts s (if runCopies b then copySettings s else s) := fun b =>
        Acts.ite (copySettings_acts s) .refl
      split
      · exact (copied _).answer ..
      · next h =>
        rw [h]
        exact ((copySettings_acts s).trans (probeBegin_acts (startFailure_none h).1)).answer ..)

theorem takeProbeAdopt_acts (p : Port) (zone : Nat) (s : State) : Leaves (Acts s) (takeProbeAdopt p zone s) :=
  .next (guarded_acts fun _ => checked_acts fun z _ => by
    split
    · exact answer_acts ..
    · exact Acts.ite (answer_acts ..) (Acts.ite (answer_acts ..)
        (acceptChange_acts (.of nofun fun h => adoptedGeometry_within z _ h))))

theorem recallFailure_none {n : Fin 8} (h : recallFailure s n = none) : s.store.recalls.length < 4 := by
  unfold recallFailure at h
  (repeat' split at h) <;> first | exact Nat.lt_of_not_le ‹¬ Config.recallPlaces ≤ _› | cases h

theorem placeRecall_length (r : Recall) (l : List Recall) : (placeRecall r l).length = l.length + 1 := by
  unfold placeRecall
  split
  · have := congrArg List.length (List.takeWhile_append_dropWhile (p := fun x : Recall => decide (x.port = .V)) (l := l))
    simp only [List.length_append, List.length_cons] at this ⊢
    omega
  · simp

theorem takeRecallScene_acts (p : Port) (n : Nat) (s : State) : Leaves (Acts s) (takeRecallScene p n s) :=
  .next (Acts.ite (answer_acts ..) (checked_acts fun n _ => Acts.ite (answer_acts ..) (by
    split
    · exact (recallFailed_acts p s).answer ..
    · next h =>
      have placed : Acts s (s.updStore fun x => { x with recalls := placeRecall { port := p, scene := n } x.recalls }) :=
        updStore_acts (.of Iff.rfl rfl
          (fun _ => (placeRecall_length _ s.store.recalls).trans_le (recallFailure_none h)) fun o e => ⟨o, e, rfl⟩)
      exact (placed.trans (serveRecall_acts _)).answer ..)))

theorem takeNoteSetup_acts (p : Port) (n : Nat) (e : Choice) (l : Int) (s : State) :
    Leaves (Acts s) (takeNoteSetup p n e l s) :=
  .next (guarded_acts fun _ => checked_acts fun k _ => checked_acts fun b _ =>
    (PortAct.noteSet p k b (limitNat_bounds (by decide) l).2).run.answer ..)

theorem takeNoteClear_acts (p : Port) (kinds : List Nat) (s : State) : Leaves (Acts s) (takeNoteClear p kinds s) :=
  .next (guarded_acts fun _ => checked_acts fun ks _ =>
    (Acts.foldl (fun _ k => (PortAct.noteClear p k).run) ks s).answer ..)

theorem superviseStart_acts {n : Nat} (h : s.supervision.Counted → 100 ≤ n ∧ n ≤ 10000) :
    Acts s (superviseStart n s) := by
  have k : Acts s { s with supervision := { watch := .watching n, timeout := n, fresh := s.atMark } } :=
    (UnitAct.supervision (s := s) (x := { watch := .watching n, timeout := n, fresh := s.atMark })
      fun c => ⟨h c, fun m e => by cases e; exact le_rfl⟩).run
  exact Acts.ite (k.trans (raiseAll_acts ..)) k

theorem superviseStop_acts (s : State) : Acts s (superviseStop s) := by
  have k : Acts s { s with supervision := { s.supervision with watch := .off } } :=
    (UnitAct.supervision (s := s) (x := { s.supervision with watch := .off }) fun c => ⟨c.1, fun m e => by cases e⟩).run
  exact Acts.ite (k.trans (raiseAll_acts ..)) k

theorem storeOnly_acts {f : StoreUnit → StoreUnit} (state : (f s.store).state = s.store.state)
    (sectors : (f s.store).sectors = s.store.sectors) (recalls : (f s.store).recalls = s.store.recalls)
    (op : (f s.store).op = s.store.op) : Acts s (s.updStore f) :=
  updStore_acts (.of (state ▸ Iff.rfl) sectors (by rw [recalls]; exact id) fun o e => ⟨o, op ▸ e, rfl⟩)

theorem gainWithin_limit (g : Int) : gainWithin (limit (-160) 24 g) = true := limit_inRange (by decide) g

set_option Elab.async true in
theorem runCommand_acts (i : Instr) (s : State) : Leaves (Acts s) (runCommand i s) := by
  cases i with
  | readRecord =>
    exact .next (guarded_acts fun _ => checked_acts fun _ _ => checked_acts fun _ _ => answer_acts ..)
  | gain =>
    exact .next (guarded_acts fun _ => checked_acts fun _ _ => checked_acts fun _ _ =>
      acceptChange_acts (.of nofun fun _ => gainWithin_limit _))
  | eqSelect =>
    exact .next (guarded_acts fun _ => checked_acts fun _ _ => checked_acts fun _ _ =>
      acceptChange_acts (.of nofun fun _ => rfl))
  | geometry =>
    exact .next (guarded_acts fun _ => checked_acts fun _ _ => checked_acts fun _ _ =>
      acceptChange_acts (.of nofun fun _ => geometryOf_within _ _))
  | coupling =>
    exact .next (guarded_acts fun _ => checked_acts fun _ _ => checked_acts fun _ h =>
      acceptChange_acts (.of (fun _ => nofun) fun _ => coupling_within h))
  | eqBank =>
    exact .next (guarded_acts fun _ => checked_acts fun _ _ => checked_acts fun _ _ => checked_acts fun _ _ =>
      acceptChange_acts (.of nofun fun _ => rfl))
  | timing =>
    exact .next (guarded_acts fun _ => checked_acts fun _ _ =>
      acceptChange_acts (.of nofun fun _ => timingOf_within _))
  | evacGain =>
    exact .next (guarded_acts fun _ => checked_acts fun _ _ =>
      acceptChange_acts (.of nofun fun _ => gainWithin_limit _))
  | readQueue | readDelayMap | readSensors | readProbe | readStore | readSystem | noteRead | readStatus =>
    exact .next (guarded_acts fun _ => answer_acts ..)
  | readTargets | readChain | readRoutes | readPower =>
    exact .next (guarded_acts fun _ => checked_acts fun _ _ => answer_acts ..)
  | allocate p z a => exact takeAllocate_acts p z a s
  | sensorSetup p n e a => exact takeSensorSetup_acts p n e a s
  | sensorManual p n v => exact takeSensorManual_acts p n v s
  | sensorAuto p n => exact takeSensorAuto_acts p n s
  | clearClip =>
    exact .next (guarded_acts fun _ => checked_acts fun zs _ =>
      (Acts.eachOf zs (fun z s => (AudioAct.clip z).run) s).answer ..)
  | routeRaise p l src lvl => exact takeRouteRaise_acts p l src lvl s
  | routeDrop p l src => exact takeRouteDrop_acts p l src s
  | routeDropAll p => exact takeRouteDropAll_acts p s
  | enableZone p z => exact takeEnableZone_acts p z s
  | disableZone p z => exact takeDisableZone_acts p z s
  | probeSetup p a => exact takeProbeSetup_acts p a s
  | probeRun p e => exact takeProbeRun_acts p e s
  | probeStop => exact .next (guarded_acts fun _ => (probeStopped_acts s).answer ..)
  | probeClear =>
    exact .next (guarded_acts fun _ =>
      (UnitAct.probe ⟨fun _ _ h => h, fun k => ⟨k.1, k.2.1, Nat.zero_le _⟩⟩).run.answer ..)
  | probeAdopt p z => exact takeProbeAdopt_acts p z s
  | storeZone p zone =>
    refine .next (writeCommand_acts fun h => ?_)
    cases zoneOf zone with
    | none => rfl
    | some z => exact active_contents z h
  | storeScene => exact .next (writeCommand_acts capturedScene_within)
  | eraseSector | storeSystem | lockZone => exact .next (writeCommand_acts fun _ => rfl)
  | recallScene p n => exact takeRecallScene_acts p n s
  | clearStoreFaults | overrideLocks | lowerOverride =>
    exact .next (guarded_acts fun _ => (storeOnly_acts rfl rfl rfl rfl).answer ..)
  | setSystem p a =>
    exact .next (guarded_acts fun _ => (applySettings_acts (settingsOf_within a)).answer ..)
  | noteSetup p n e l => exact takeNoteSetup_acts p n e l s
  | noteClear p l => exact takeNoteClear_acts p l s
  | supervise p t =>
    exact .next (guarded_acts fun _ => (superviseStart_acts fun c => superviseTimeout_bounds t c.1).answer ..)
  | superviseEnd => exact .next (guarded_acts fun _ => (superviseStop_acts s).answer ..)
  | restart p => exact .next (guarded_acts fun _ => Acts.ite (answer_acts ..) (respond_acts ..))
  | _ => exact .next .refl

/-! ### The links (R186 to R188, R193) -/

theorem answerMalformed_acts (p : Port) (cmd : Byte) (s : State) : Acts s (answerMalformed p cmd s) :=
  (Acts.ite (lowerOverride_acts s) .refl).answer ..

theorem carryOut_acts (p : Port) (f : Frame) (s : State) : Leaves (Acts s) (carryOut p f s) := by
  unfold carryOut
  split
  · exact .next (respond_acts ..)
  · exact .next (answerMalformed_acts ..)
  · exact runCommand_acts _ s

theorem Leaves.after {o : Answer} (h : Acts s t) (k : Leaves (Acts t) o) : Leaves (Acts s) o :=
  fun u e => h.trans (k u e)

theorem takeFrame_acts (p : Port) (s : State) : Leaves (Acts s) (takeFrame p s) := by
  unfold takeFrame
  dsimp only
  split
  · next f rest _ e =>
    refine .after (PortAct.link fun h => ?_).run (carryOut_acts p _ _)
    rw [e] at h
    exact (Nat.le_succ _).trans h
  · exact .next .refl

theorem setRx_acts (p : Port) (r : Receiver) (s : State) : Acts s (setRx p r s) := (PortAct.link id).run

theorem discard_acts (p : Port) (c : LinkCause) (s : State) : Acts s (discard p c s) :=
  (setRx_acts p .hunt s).trans (PortAct.raise ..).run

theorem judgeFrame_acts (p : Port) (s : State) : Leaves (Acts s) (judgeFrame p s) := by
  unfold judgeFrame
  split
  · split
    · unfold placeFrame
      split
      · next h =>
        refine .after (PortAct.link fun _ => ?_).run (takeFrame_acts p _)
        rw [List.length_append]
        exact h
      · exact .next (discard_acts ..)
    · exact .next (discard_acts ..)
  all_goals exact .next .refl

theorem readLinkByte_acts (p : Port) (b : Byte) (stop : Bool) (s : State) : Acts s (readLinkByte p b stop s) := by
  unfold readLinkByte
  split
  · exact Acts.ite (setRx_acts ..) .refl
  · exact Acts.ite (Acts.ite (setRx_acts ..) (Acts.ite (setRx_acts ..) (discard_acts ..))) (discard_acts ..)
  · exact Acts.ite (setRx_acts ..) (discard_acts ..)
  · exact Acts.ite (setRx_acts ..) (discard_acts ..)
  · exact .refl

theorem SensorRecord.initial_counted (b : Bool) : (SensorRecord.initial b).Counted := ⟨Nat.zero_le _, le_rfl⟩

theorem restartRecord_counted (a b : SensorFields) {r : SensorRecord} (h : r.Counted) :
    (restartRecord a b r).Counted := by
  unfold restartRecord
  split
  · exact h
  · exact setupRecord_counted a b h

theorem coldTemp_counted (x : Settings) : (coldTemp x).Counted := by
  refine ⟨fun n => ?_, fun n e => by cases e⟩
  simpa [coldTemp] using SensorRecord.initial_counted _

theorem restartTemp_counted (a b : Settings) {x : TempUnit} (h : x.Counted) : (restartTemp a b x).Counted := by
  refine ⟨fun n => ?_, fun n e => by cases e⟩
  simpa [restartTemp] using restartRecord_counted _ _ (h.1 n)

theorem execResponseSent_acts (p : Port) (s : State) : Leaves (Acts s) (execResponseSent p s) := by
  unfold execResponseSent
  split
  · exact .next .refl
  · split
    · exact .next (ResetAct.reset _ _ _ (restartTemp_counted _ _)).run
    · exact .after (PortAct.link id).run (takeFrame_acts p _)

/-! ### Rows (log entries 3 and 5) -/

theorem endResponses_acts (p : Port) (n : Nat) (s : State) : Leaves (Acts s) (endResponses p n s) := by
  induction n generalizing s with
  | zero => exact .next .refl
  | succ n ih =>
    unfold endResponses
    split
    · exact .next .refl
    · exact (execResponseSent_acts p s).andThen fun t k => .after k (ih t)

theorem atTurn_acts (p : Port) {f : State → Answer} (hf : ∀ s, Leaves (Acts s) (f s)) (s : State) :
    Leaves (Acts s) (atTurn p f s) :=
  (endResponses_acts p _ s).andThen fun t k => .after k (hf t)

/-- An event of a frame mark, told after its FRAME_MARK or before it (log entry 5). -/
theorem told_acts {f : State → State} {c d : Prop} [Decidable c] [Decidable d] (hc : c → Acts s (f s))
    (hd : d → Acts { s with atMark := true } (f { s with atMark := true })) :
    Leaves (Acts s) (.next (if c then f s else if d then f { s with atMark := true } else s)) := by
  refine .next ?_
  split
  · exact hc ‹_›
  · split
    · exact (atMark_acts s).trans (hd ‹_›)
    · exact .refl

theorem execSensorTransactionEnd_acts (bus : BusOutcome) (s : State) :
    Leaves (Acts s) (execSensorTransactionEnd bus s) := by
  refine .next ?_
  split
  · exact .refl
  · have k := fun r : Round => applyOutcome_acts r.slot (judge (s.sensor r.slot) r.spikeLimit bus) s
    exact Acts.ite (roundOn_acts ..) (Acts.ite ((k _).trans (SetAct.round ..).run) ((k _).trans (roundOn_acts ..)))

theorem execEraseComplete_acts (b : Bool) (s : State) : Leaves (Acts s) (execEraseComplete b s) := by
  refine .next ?_
  split
  · next hs hop =>
    have h := not_starting_iff.mpr (by rw [hs]; nofun)
    exact Acts.ite (erasePassed_acts h hop) (eraseFailed_acts _ h)
  · exact .refl

theorem execProgramComplete_acts (b : Bool) (s : State) : Leaves (Acts s) (execProgramComplete b s) := by
  refine .next ?_
  split
  · next hs hop =>
    have h := not_starting_iff.mpr (by rw [hs]; nofun)
    exact Acts.ite (programPassed_acts h hop) (programFailed_acts _ h)
  · exact .refl

theorem execLockComplete_acts (b : Bool) (s : State) : Leaves (Acts s) (execLockComplete b s) := by
  refine .next ?_
  split
  · next op hs hop =>
    have h := not_starting_iff.mpr (by rw [hs]; nofun)
    have locked : Acts s (s.updSector op.sector fun x => { x with lock := true }) :=
      updSector_acts id fun k => k.2.2.2.1 op.sector
    exact Acts.ite (locked.trans (endOperation_acts op _ h)) (endOperation_acts op _ h)
  · exact .refl

theorem execTrigEdge_acts (e : Edge) (s : State) : Leaves (Acts s) (execTrigEdge e s) := by
  refine .next ?_
  split
  · exact Acts.ite ((copySettings_acts s).trans (probeStart_acts ..)) .refl
  all_goals exact .refl

set_option Elab.async true in
/-- The end of a scene read leaves start-up over (R171). -/
theorem readEnd_starting (r : Recall) (b : Bool) (s : State) : (readEnd r b s).starting = s.starting := by
  have raised : ∀ (w : SceneFailure) (u : State), (failRecall r w u).starting = u.starting := by
    intro w u
    have k := (raiseAll_only (recallFailed r.port u) [.P, .V, .C] (.sceneFailed r.port r.scene w)).same .store (by decide)
    have e : (failRecall r w u).starting = (recallFailed r.port u).starting :=
      congrArg (fun x : StoreUnit => decide (x.state = .starting)) k.symm
    rw [e]
    unfold recallFailed
    split <;> rfl
  have offered : ∀ e, (offer e s).starting = s.starting := fun e =>
    congrArg (fun x : StoreUnit => decide (x.state = .starting)) ((offer_only e s).same .store (by decide)).symm
  unfold readEnd
  split
  · exact raised _ _
  · dsimp only
    split
    · exact raised _ _
    all_goals
      unfold succeedRecall
      split <;> exact offered _

theorem execSceneReadEnd_acts (b : Bool) (s : State) : Leaves (Acts s) (execSceneReadEnd b s) := by
  refine .next ?_
  split
  · next hs _ =>
    have h := not_starting_iff.mpr (by rw [hs]; nofun)
    exact (readEnd_acts ..).trans (storeGoOn_acts ((readEnd_starting ..).trans h))
  · exact .refl

theorem command_acts {i : Instr} {p : Port} (hp : commandPort i = some p) : Leaves (Acts s) (exec i s) := by
  rw [exec_command i p hp]
  exact atTurn_acts p (runCommand_acts i) s

theorem execStartupDone_acts (s : State) : Leaves (Acts s) (execStartupDone s) := by
  refine .next ?_
  split
  · next h => exact (ResetAct.startUp h).run
  · exact .refl

theorem wakeDueNext_acts {z : Zone} (h : wakeDueNext z s = true) :
    Acts { s with atMark := true } (wakeFinish z { s with atMark := true }) := by
  simp only [wakeDueNext, Bool.and_eq_true, decide_eq_true_eq] at h
  exact wakeFinish_acts (n := 1) h.1.2

theorem drainDue_acts {z : Zone} (h : drainDue z s = true) : Acts s (drainFinish z s) := by
  obtain ⟨d, e⟩ := drainLeft_some (drainDue_iff.mp h)
  exact drainFinish_acts e

theorem drainDueNext_acts {z : Zone} (h : drainDueNext z s = true) :
    Acts { s with atMark := true } (drainFinish z { s with atMark := true }) := by
  simp only [drainDueNext, Bool.and_eq_true, decide_eq_true_eq] at h
  obtain ⟨d, e⟩ := drainLeft_some h.1.2
  exact drainFinish_acts (d := d) (n := 1) e

theorem execSuspensionEvent_acts (s : State) : Leaves (Acts s) (execSuspensionEvent s) := by
  refine .next ?_
  split
  · next h => exact storeGoOn_acts (not_starting_iff.mpr (by rw [h]; nofun))
  · exact .refl

theorem execLinkGap_acts (p : Port) (s : State) : Leaves (Acts s) (execLinkGap p s) := by
  refine .next ?_
  split
  · exact .refl
  · exact .refl
  all_goals exact discard_acts ..

theorem execUnknownCommand_acts (p : Port) (cmd : Byte) (s : State) : Leaves (Acts s) (execUnknownCommand p cmd s) := by
  unfold execUnknownCommand
  split
  · exact .next .refl
  · exact atTurn_acts p (fun _ => .next (respond_acts ..)) s

set_option Elab.async true in
theorem exec_acts (i : Instr) (s : State) : Leaves (Acts s) (exec i s) := by
  cases i with
  | coldReset => exact .next (ResetAct.reset _ _ _ fun _ => coldTemp_counted _).run
  | startupDone => exact execStartupDone_acts s
  | frameMark order => exact execFrameMark_acts order s
  | samplePeriod inputs => exact execSamplePeriod_acts inputs s
  | changeComplete => exact told_acts (fun _ => Act.complete.run) fun _ => Act.complete.run
  | wakeTimeElapsed z => exact told_acts (fun h => wakeFinish_acts (wakeDue_iff.mp h)) wakeDueNext_acts
  | drainTimeElapsed z => exact told_acts drainDue_acts drainDueNext_acts
  | fadeEnd z => exact .next (Acts.ite ((Acts.ite (atMark_acts s) .refl).trans (fadeFinish_acts z _)) .refl)
  | crossfadeEnd z => exact .next (Acts.ite (PowerAct.crossfadeEnd z).run .refl)
  | supervisionExpiry => exact told_acts (fun _ => supervisionExpire_acts _) fun _ => supervisionExpire_acts _
  | pollTimerExpiry => exact told_acts (fun _ => pollExpiry_acts _) fun _ => pollExpiry_acts _
  | sensorTransactionEnd bus => exact execSensorTransactionEnd_acts bus s
  | sensorStale n => exact told_acts (fun _ => becomeStale_acts n _) fun _ => becomeStale_acts n _
  | trigEdge e => exact execTrigEdge_acts e s
  | periodOpen => exact .next (periodOpen_acts s)
  | windowClose => exact told_acts (fun _ => closeWindow_acts _) fun _ => closeWindow_acts _
  | periodEnd =>
    exact .next (Acts.ite (periodEnd_acts 0 s) (Acts.ite ((atMark_acts s).trans (periodEnd_acts 1 _)) .refl))
  | eraseComplete b => exact execEraseComplete_acts b s
  | programComplete b => exact execProgramComplete_acts b s
  | lockComplete b => exact execLockComplete_acts b s
  | suspensionEvent => exact execSuspensionEvent_acts s
  | sceneReadEnd b => exact execSceneReadEnd_acts b s
  | frameReceived p => exact judgeFrame_acts p s
  | linkGap p => exact execLinkGap_acts p s
  | responseSent p => exact execResponseSent_acts p s
  | unknownCommand p cmd => exact execUnknownCommand_acts p cmd s
  | byteReceived p b stop => exact (judgeFrame_acts p s).andThen fun _ k => .next (k.trans (readLinkByte_acts ..))
  | _ => exact command_acts rfl

/-- What every act keeps, every step keeps. -/
theorem kept_of_acts {P : State → Prop} (act : ∀ {s t}, P s → Act s t → P t) : Kept P := by
  intro s t h e
  unfold step at e
  split at e
  · next rest _ => exact (exec_acts _ _).acts act (act h (.plain (.pending rest))) t e
  · exact Leaves.next h t e

end Sys2Proof.Machine
end

section
/-! PROOFS. The change queue keeps its limits and its order (R18, R24, R28, R29). -/

namespace Sys2Proof.Machine

-- One theorem at a time, and a long one, marked, on a thread of its own: the compile has 22 GiB. The two linters do
-- not see into such a proof.
set_option Elab.async false
set_option linter.unusedTactic false
set_option linter.unreachableTactic false

variable {s t : State} {l : List Part}

/-! ### Frames of an invariant -/

/-- Every part of the state. -/
def Part.every : List Part :=
  [.pending, .entry, .target, .line, .eq, .gain, .route, .power, .queue, .mem, .eqWait, .history, .temp, .settings,
    .probe, .store, .ports, .supervision, .lastReset, .sampleIndex, .atMark, .tdmOut, .ampSent]

/-- The parts besides some. -/
def Part.besides (m : List Part) : List Part := Part.every.filter fun p => !m.contains p

/-- A part that an act does not list, and that is one of `m`, is the same after it. -/
theorem Only.besides {m : List Part} (k : Only l s t) (hl : Part.among l (Part.besides m) = true) {p : Part}
    (hp : p ∈ m) : p.same s t :=
  (k.mono hl).same p fun h => by simp [Part.besides, hp] at h

/-! ### The next entry (R27, R28) -/

/-- What the apply unit takes, if it takes an entry. -/
theorem takeNext_cases (s : State) : takeNext s = s ∨ ∃ (i : Nat) (h : i < s.queue.entries.length),
    s.queue.hand = none ∧ takePlace s.settings.bypassMax s.queue.entries = some i ∧
    takeNext s = { s with queue :=
      { entries := takenQueue i s.queue.entries,
        hand := some
          { entry := s.queue.entries[i], marks := s.queue.entries[i].change.kind.marks, fresh := s.atMark } } } := by
  unfold takeNext
  split
  · next i hh hp =>
    split
    · next e he =>
      obtain ⟨hi, rfl⟩ := List.getElem?_eq_some_iff.mp he
      exact .inr ⟨i, hi, hh, hp, rfl⟩
    · exact .inl rfl
  · exact .inl rfl

/-- An entry that is not the oldest is taken only where the oldest has not been passed over BYPASS_MAX times. -/
theorem takePlace_pos {m i : Nat} {l : List QueueEntry} (h : takePlace m l = some i) (hi : 0 < i)
    (hl : 0 < l.length) : l[0].bypass ≠ m := by
  cases l with
  | nil => cases h
  | cons e rest =>
    intro k
    simp only [takePlace, List.getElem_cons_zero] at h k
    rw [if_pos k] at h
    cases h
    exact absurd hi (lt_irrefl 0)

/-- Older entries are passed over at least as often as younger ones, and no two share a key (R18, R28). -/
def QueueOrder (l : List QueueEntry) : Prop :=
  l.Pairwise fun older younger => younger.bypass ≤ older.bypass ∧ older.sameKey younger = false

theorem countPC_eq (q : ChangeQueue) : q.countPC = q.entries.countP fun e => decide (e.port ≠ .V) :=
  (List.countP_eq_length_filter ..).symm

/-- The limits and the order of a queue's entries, under BYPASS_MAX m. -/
def QueueLimits (m : Nat) (l : List QueueEntry) : Prop :=
  l.length ≤ 32 ∧ l.countP (fun e => decide (e.port ≠ .V)) ≤ 28 ∧ (∀ e ∈ l, e.bypass ≤ m) ∧ QueueOrder l

theorem queueInv_iff : QueueInv s ↔ QueueLimits s.settings.bypassMax s.queue.entries := by
  rw [QueueLimits, ← countPC_eq]
  exact Iff.rfl

theorem QueueLimits.taken {m i : Nat} {l : List QueueEntry} (h : QueueLimits m l) (hp : takePlace m l = some i)
    (hi : i < l.length) : QueueLimits m (takenQueue i l) := by
  obtain ⟨len, pc, bypass, order⟩ := h
  have sub : (l.take i ++ l.drop (i + 1)).Sublist l := by
    rw [← List.eraseIdx_eq_take_drop_succ]
    exact List.eraseIdx_sublist ..
  obtain ⟨k1, k2, k3⟩ := List.pairwise_append.mp (List.Pairwise.sublist sub order)
  refine ⟨?_, ?_, fun x hx => ?_, List.pairwise_append.mpr
    ⟨List.pairwise_map.mpr (k1.imp fun h => ⟨Nat.succ_le_succ h.1, h.2⟩), k2, fun x hx y hy => ?_⟩⟩
  · refine le_trans (le_of_eq ?_) (sub.length_le.trans len)
    simp only [takenQueue, List.length_append, List.length_map]
  · refine le_trans (le_of_eq ?_) (sub.countP_le.trans pc)
    simp only [takenQueue, List.countP_append, List.countP_map, Function.comp_def]
  · rcases List.mem_append.mp hx with hx | hx
    · obtain ⟨y, hy, rfl⟩ := List.mem_map.mp hx
      have pos : 0 < i := Nat.pos_of_ne_zero fun e => by rw [e] at hy; cases hy
      have first := takePlace_pos hp pos (pos.trans hi)
      have oldest := bypass _ (List.getElem_mem (pos.trans hi))
      obtain ⟨j, hj, rfl⟩ := List.mem_iff_getElem.mp (List.mem_of_mem_take hy)
      rcases Nat.eq_zero_or_pos j with rfl | k
      · exact lt_of_le_of_ne oldest first
      · exact ((List.pairwise_iff_getElem.mp order 0 j (pos.trans hi) hj k).1).trans_lt (lt_of_le_of_ne oldest first)
    · exact bypass x (List.mem_of_mem_drop hx)
  · obtain ⟨w, hw, rfl⟩ := List.mem_map.mp hx
    exact ⟨(k3 w hw y hy).1.trans (Nat.le_succ _), (k3 w hw y hy).2⟩

theorem takeNext_queue (h : QueueInv s) : QueueInv (takeNext s) := by
  rcases takeNext_cases s with e | ⟨i, hi, -, hp, e⟩
  · rw [e]; exact h
  · rw [e]
    exact queueInv_iff.mpr ((queueInv_iff.mp h).taken hp hi)

/-! ### Offers (R23, R24) -/

theorem QueueEntry.sameKey_iff {a b : QueueEntry} : a.sameKey b = true ↔
    a.port = b.port ∧ a.zone = b.zone ∧ a.change.kind = b.change.kind ∧ a.change.bank = b.change.bank :=
  decide_eq_true_iff

/-- A merge replaces an entry's change by one of its own kind and bank, and nothing else (R23). -/
theorem mergeInto_keeps (e x : QueueEntry) :
    let y := if x.sameKey e then { x with change := e.change } else x
    y.port = x.port ∧ y.zone = x.zone ∧ y.bypass = x.bypass ∧ y.change.kind = x.change.kind ∧
      y.change.bank = x.change.bank := by
  dsimp only
  split
  · next h =>
    obtain ⟨-, -, kind, bank⟩ := QueueEntry.sameKey_iff.mp h
    exact ⟨rfl, rfl, rfl, kind.symm, bank.symm⟩
  · exact ⟨rfl, rfl, rfl, rfl, rfl⟩

/-- What an offer leaves: a merge, an appended entry followed by a taking, or nothing. -/
theorem offer_cases (e : QueueEntry) (s : State) :
    (offer e s = { s with queue := { s.queue with entries := mergeInto e s.queue.entries } }) ∨
    (offer e s = takeNext { s with queue := { s.queue with entries := s.queue.entries ++ [e] } } ∧
      (∀ x ∈ s.queue.entries, x.sameKey e = false) ∧ s.queue.hasRoom e.port = true) ∨ offer e s = s := by
  cases h : s.queue.entries.findIdx? fun x => x.sameKey e with
  | some i => exact .inl (offer_merges h)
  | none =>
    cases k : s.queue.hasRoom e.port with
    | false => exact .inr (.inr (offer_full h k))
    | true => exact .inr (.inl ⟨offer_appends h k, by simpa using List.findIdx?_eq_none_iff.mp h, rfl⟩)

theorem sameKey_comm (a b : QueueEntry) : a.sameKey b = b.sameKey a := by
  rw [Bool.eq_iff_iff, QueueEntry.sameKey_iff, QueueEntry.sameKey_iff]
  constructor <;> exact fun ⟨p, z, k, b⟩ => ⟨p.symm, z.symm, k.symm, b.symm⟩

theorem QueueLimits.merged {m : Nat} {l : List QueueEntry} (e : QueueEntry) (h : QueueLimits m l) :
    QueueLimits m (mergeInto e l) := by
  obtain ⟨len, pc, bypass, order⟩ := h
  refine ⟨(List.length_map ..).trans_le len, ?_, fun x hx => ?_, List.pairwise_map.mpr (order.imp fun {x y} h => ?_)⟩
  · refine le_of_eq_of_le ?_ pc
    rw [mergeInto, List.countP_map]
    exact List.countP_congr fun x _ => by rw [Function.comp, (mergeInto_keeps e x).1]
  · obtain ⟨y, hy, rfl⟩ := List.mem_map.mp hx
    rw [(mergeInto_keeps e y).2.2.1]
    exact bypass y hy
  · obtain ⟨p, z, b, k, n⟩ := mergeInto_keeps e x
    obtain ⟨p', z', b', k', n'⟩ := mergeInto_keeps e y
    rw [b, b', Bool.eq_false_iff, ne_eq, QueueEntry.sameKey_iff, p, p', z, z', k, k', n, n', ← QueueEntry.sameKey_iff,
      ← ne_eq, ← Bool.eq_false_iff]
    exact h

theorem QueueLimits.appended {m : Nat} {l : List QueueEntry} {e : QueueEntry} (h : QueueLimits m l)
    (zero : e.bypass = 0) (new : ∀ x ∈ l, x.sameKey e = false) (places : l.length < 32)
    (placesPC : e.port = .V ∨ l.countP (fun e => decide (e.port ≠ .V)) < 28) : QueueLimits m (l ++ [e]) := by
  obtain ⟨len, pc, bypass, order⟩ := h
  refine ⟨List.length_append.trans_le places, ?_, fun x hx => ?_,
    List.pairwise_append.mpr ⟨order, List.pairwise_singleton .., fun x hx y hy => ?_⟩⟩
  · rw [List.countP_append, List.countP_singleton]
    rcases placesPC with hv | hc
    · simpa [hv] using pc
    · split
      · exact hc
      · exact pc
  · rcases List.mem_append.mp hx with hx | hx
    · exact bypass x hx
    · rw [List.mem_singleton.mp hx, zero]
      exact Nat.zero_le _
  · rw [List.mem_singleton.mp hy, zero]
    exact ⟨Nat.zero_le _, new x hx⟩

theorem append_queue {e : QueueEntry} (h : QueueInv s) (zero : e.bypass = 0)
    (new : ∀ x ∈ s.queue.entries, x.sameKey e = false) (room : s.queue.hasRoom e.port = true) :
    QueueInv { s with queue := { s.queue with entries := s.queue.entries ++ [e] } } := by
  obtain ⟨places, placesPC⟩ : s.queue.entries.length < 32 ∧ (e.port = .V ∨ s.queue.countPC < 28) :=
    decide_eq_true_iff.mp room
  rw [countPC_eq] at placesPC
  exact queueInv_iff.mpr ((queueInv_iff.mp h).appended zero new places placesPC)

theorem offer_queue {e : QueueEntry} (zero : e.bypass = 0) (h : QueueInv s) : QueueInv (offer e s) := by
  rcases offer_cases e s with k | ⟨k, new, room⟩ | k
  · rw [k]; exact queueInv_iff.mpr ((queueInv_iff.mp h).merged e)
  · exact k ▸ takeNext_queue (append_queue h zero new room)
  · rw [k]; exact h

/-- A lower BYPASS_MAX lowers the counts above it (R29). -/
theorem lowerBypass_queue (x : Settings) (h : QueueInv s) :
    QueueInv { s with settings := x, queue := lowerBypass x.bypassMax s.queue } := by
  obtain ⟨len, pc, -, order⟩ := queueInv_iff.mp h
  refine queueInv_iff.mpr ⟨(List.length_map ..).trans_le len, (List.countP_map ..).trans_le pc, fun e he => ?_,
    List.pairwise_map.mpr (order.imp fun h => ⟨min_le_min_right _ h.1, h.2⟩)⟩
  obtain ⟨e, -, rfl⟩ := List.mem_map.mp he
  exact Nat.min_le_right ..

/-! ### The invariant -/

/-- The limits and the order of the queue read the queue's entries and BYPASS_MAX, and nothing else. -/
theorem QueueInv.congr (h : QueueInv s) (entries : s.queue.entries = t.queue.entries)
    (bypassMax : s.settings.bypassMax = t.settings.bypassMax) : QueueInv t := by
  rw [queueInv_iff] at h ⊢
  rwa [← entries, ← bypassMax]

theorem QueueInv.frame (h : QueueInv s) (k : Only l s t)
    (hl : Part.among l (Part.besides [.queue, .settings]) = true) : QueueInv t :=
  h.congr (congrArg ChangeQueue.entries (k.besides hl (p := .queue) (by decide)))
    (congrArg Settings.bypassMax (k.besides hl (p := .settings) (by decide)))

theorem completeHand_queue (h : QueueInv s) : QueueInv (completeHand s) := by
  unfold completeHand
  split
  · next hand _ =>
    have landed := (h.frame (landChange_only hand.entry s) (by decide)).congr
      (t := { landChange hand.entry s with queue := { (landChange hand.entry s).queue with hand := none } }) rfl rfl
    exact takeNext_queue (landed.frame (raiseDrained_only ..) (by decide))
  · exact h

/-- A reset leaves an empty queue. -/
theorem queueInv_of_nil (h : s.queue.entries = []) : QueueInv s := by
  rw [queueInv_iff, h]
  exact ⟨Nat.zero_le _, Nat.zero_le _, fun e he => absurd he List.not_mem_nil, .nil⟩

set_option Elab.async true in
theorem queueInv_act (h : QueueInv s) (a : Act s t) : QueueInv t := by
  cases a with
  | reset a =>
    cases a with
    | reset => exact queueInv_of_nil rfl
    | startUp => exact h.frame (startUp_only s) rfl
  | tick => exact h.congr rfl rfl
  | complete => exact completeHand_queue h
  | set a =>
    cases a with
    | offer sound => exact offer_queue sound.bypass h
    | settings => exact lowerBypass_queue _ h
    | sensorFields => exact h.congr rfl rfl
    | sensor => exact h.frame (updSensor_only ..) rfl
    | round => exact h.frame (setRound_only ..) rfl
    | timer => exact h.frame (loadTimer_only s) rfl
  | service a | record a | power a | audio a | port a | unit a | plain a => exact h.frame a.only rfl

/-- Settles O9: a taking passes over no entry more than BYPASS_MAX times, since it takes an entry younger than the
oldest only where the oldest's count, the greatest, lies below BYPASS_MAX. -/
theorem queueKept : Obligations.QueueKept := kept_of_acts queueInv_act

end Sys2Proof.Machine
end

section
/-! PROOFS. What becomes of the table entries: the transfer, the direct writes, a completed change, and start-up load. -/

namespace Sys2Proof.Machine

-- One theorem at a time, and a long one, marked, on a thread of its own: the compile has 22 GiB. The two linters do
-- not see into such a proof.
set_option Elab.async false
set_option linter.unusedTactic false
set_option linter.unreachableTactic false

variable {s t : State} {l : List Part}

/-! ### Writes of one zone's entry -/

/-- An entry both of whose copies are written (R12). -/
def TableEntry.both (f : ZoneRecord → ZoneRecord) (e : TableEntry) : TableEntry :=
  { e with active := f e.active, shadow := f e.shadow }

/-- An entry whose shadow record takes a change of a zone (R7, R8). -/
def TableEntry.written (c : Change) (z : Zone) (e : TableEntry) : TableEntry :=
  { e with shadow := c.write z e.shadow, groups := c.groups.foldr joinGroup e.groups }

/-- A change to a target writes a zone (R7). -/
def ZoneTarget.names (t : ZoneTarget) (z : Zone) : Prop := t = .all ∨ t = .one z

theorem directWrite_entry (y z : Zone) (g : FieldGroup) (f : ZoneRecord → ZoneRecord) (s : State) :
    ((directWrite z g f s).zone y).entry = if y = z then (s.zone y).entry.both f else (s.zone y).entry := by
  rw [← entry_updEntry s y z (TableEntry.both f)]
  exact ((changeNotice_only z [g] (s.active z) (writeBoth z f s)).same .entry (by decide) y).symm

theorem enableZone_entry (y z : Zone) (s : State) :
    ((enableZone z s).zone y).entry =
      if y = z then (s.zone y).entry.both (fun r => { r with enabled := true }) else (s.zone y).entry := by
  rw [← directWrite_entry y z .enable]
  have rest : Only [.line, .mem, .eq, .route, .power, .gain, .eqWait]
      (directWrite z .enable (fun r => { r with enabled := true }) s) (enableZone z s) := by
    unfold enableZone
    dsimp only
    refine Only.trans ?_ ((setPower_only ..).mono rfl)
    refine Only.trans ?_ ((updRoute_only ..).mono rfl)
    refine Only.trans ?_ ((eqSetUp_only ..).mono rfl)
    refine Only.trans ?_ ((updLine_only ..).mono rfl)
    exact (clearLine_only ..).mono rfl
  exact (rest.same .entry (by decide) y).symm

theorem disableZone_entry (y z : Zone) (s : State) :
    ((disableZone z s).zone y).entry =
      if y = z then (s.zone y).entry.both (fun r => { r with enabled := false }) else (s.zone y).entry := by
  unfold disableZone
  dsimp only
  have routed := (updRoute_only s z fun r => { r with entries := [], fade := .atRest none }).mono
    (m := Part.disabling.erase .entry) rfl
  have cancelled := Only.ite ((s.zone z).route.entries.any RouteEntry.isProbe = true)
    (routed.trans ((probeRemoved_only z .zoneDisabled _).mono rfl)) routed
  have stopped := cancelled.trans ((setPower_only z .disabled _).mono rfl)
  have lost := fun u => ((raiseLost_only z (s.zone z).route.entries .P u).trans
    (raiseLost_only z (s.zone z).route.entries .C _)).same .entry (by decide) y
  rw [← lost, ← (updLine_only _ z _).same .entry (by decide) y, directWrite_entry, ← stopped.same .entry (by decide) y]

theorem transferWork_entry (z : Zone) (s : State) :
    ((transferWork s).zone z).entry = transferEntry (s.zone z).entry := by
  have copied : ((s.eachZone fun z s => s.updEntry z transferEntry).zone z).entry = transferEntry (s.zone z).entry :=
    State.eachZone_own (fun s z => (s.zone z).entry) (fun z s => s.updEntry z transferEntry) (fun _ => transferEntry)
      (fun z s => (entry_updEntry s z z transferEntry).trans (if_pos rfl))
      (fun z s y h => (entry_updEntry s y z transferEntry).trans (if_neg h)) s z
  have noticed : Only [.target, .ports, .eq, .eqWait] (s.eachZone fun z s => s.updEntry z transferEntry)
      (transferWork s) :=
    Only.eachZone _ (fun z s' => Only.ite _ (changeNotice_only ..) (.refl ..)) _
  rw [← copied]
  exact (noticed.same .entry (by decide) z).symm

open Classical in
theorem writeChange_entry (c : Change) (w : ZoneTarget) (z : Zone) (s : State) :
    ((writeChange c w s).zone z).entry =
      if w.names z then (s.zone z).entry.written c z else (s.zone z).entry := by
  cases w with
  | one y =>
    refine (entry_updEntry s z y (TableEntry.written c y)).trans ?_
    by_cases h : z = y
    · subst h
      rw [if_pos rfl, if_pos (.inr rfl)]
    · rw [if_neg h, if_neg]
      rintro (k | k)
      · cases k
      · cases k; exact h rfl
  | all =>
    rw [if_pos (.inl rfl)]
    exact State.eachZone_own (fun s z => (s.zone z).entry) (writeShadow c) (TableEntry.written c)
      (fun z s => (entry_updEntry s z z _).trans (if_pos rfl))
      (fun z s y h => (entry_updEntry s y z _).trans (if_neg h)) s z

/-- A completion writes no entry, or those its change names, which no check drops (R30 to R33). -/
theorem completeHand_entry (s : State) : (∀ z, ((completeHand s).zone z).entry = (s.zone z).entry) ∨
    ∃ h, s.queue.hand = some h ∧ dropReason s h.entry.zone h.entry.change = none ∧
      ∀ z, ((completeHand s).zone z).entry = ((writeChange h.entry.change h.entry.zone s).zone z).entry := by
  unfold completeHand
  split
  · next h hh =>
    have rest : ∀ (u : State) (z : Zone), ((takeNext (raiseDrained h.entry
        { u with queue := { u.queue with hand := none } })).zone z).entry = (u.zone z).entry := fun u z =>
      ((((queue_only u _).mono (m := [.queue, .ports]) rfl).trans ((raiseDrained_only h.entry _).mono rfl)).trans
        ((takeNext_only _).mono rfl)).same .entry (by decide) z |>.symm
    cases hd : dropReason s h.entry.zone h.entry.change with
    | some r =>
      refine .inl fun z => ?_
      rw [rest]
      simp only [landChange, hd]
      exact ((raise_only ..).same .entry (by decide) z).symm
    | none =>
      refine .inr ⟨h, hh, hd, fun z => ?_⟩
      rw [rest]
      simp only [landChange, hd]
  · exact .inl fun _ => rfl

/-! ### Start-up load (R5, R176, R177) -/

/-- What start-up reads of the table before a zone: the allocations and couplings of the zones of lower number. -/
def SameBefore (a b : State) (z : Zone) : Prop :=
  ∀ y, y.val < z.val → (a.active y).allocation = (b.active y).allocation ∧ (a.active y).coupling = (b.active y).coupling

theorem any_congr {α : Type} {l : List α} {f g : α → Bool} (h : ∀ a ∈ l, f a = g a) : l.any f = l.any g := by
  rw [Bool.eq_iff_iff, List.any_eq_true, List.any_eq_true]
  exact exists_congr fun a => and_congr_right fun ha => by rw [h a ha]

set_option Elab.async true in
theorem loadOf_congr {a b : State} {z : Zone} (sectors : a.store.sectors = b.store.sectors) (before : SameBefore a b z) :
    loadOf a z = loadOf b z := by
  have mem : ∀ y ∈ loadedBefore z, y.val < z.val := fun y hy => by simpa [loadedBefore] using hy
  have dropped : ∀ r, allocationDropped a z r = allocationDropped b z r := fun r => by
    unfold allocationDropped
    split
    · congr 1
      exact any_congr fun y hy => by rw [(before y (mem y hy)).1]
    · rfl
  have coupled : ∀ r, couplingDropped a z r = couplingDropped b z r := fun r => by
    unfold couplingDropped
    split
    · next k _ =>
      congr 1
      · congr 1
        by_cases h : k.leader.val < z.val
        · rw [(before _ h).2]
        · simp [h]
      · exact any_congr fun y hy => by rw [(before y (mem y hy)).2]
    · rfl
  unfold loadOf State.sector
  rw [sectors]
  simp only [repaired, dropped, coupled]

/-- The load of a zone writes both copies and the status of that zone's entry. -/
def TableEntry.loaded (x : ZoneRecord × LoadStatus) (e : TableEntry) : TableEntry :=
  { e with active := x.1, shadow := x.1, status := x.2 }

theorem loadZone_entry (y z : Zone) (s : State) :
    ((loadZone z s).zone y).entry = if y = z then (s.zone y).entry.loaded (loadOf s z) else (s.zone y).entry :=
  entry_updEntry ..

set_option Elab.async true in
/-- After the load every zone's entry is loaded by what the zones of lower number hold at its end. -/
theorem loadZones_entry (z : Zone) (s : State) :
    ((s.eachZone loadZone).zone z).entry = (s.zone z).entry.loaded (loadOf (s.eachZone loadZone) z) := by
  have key : ∀ (l : List Zone) (s : State), l.Pairwise (· < ·) →
      (∀ y, y ∉ l → ((s.eachOf l loadZone).zone y).entry = (s.zone y).entry) ∧
      ∀ y ∈ l, ((s.eachOf l loadZone).zone y).entry = (s.zone y).entry.loaded (loadOf (s.eachOf l loadZone) y) := by
    intro l
    induction l with
    | nil => exact fun s _ => ⟨fun _ _ => rfl, nofun⟩
    | cons x l ih =>
      intro s hl
      obtain ⟨hx, hl⟩ := List.pairwise_cons.mp hl
      obtain ⟨out, inside⟩ := ih (loadZone x s) hl
      have other : ∀ y, y ≠ x → ((loadZone x s).zone y).entry = (s.zone y).entry := fun y h =>
        (loadZone_entry y x s).trans (if_neg h)
      refine ⟨fun y hy => ?_, fun y hy => ?_⟩
      · rw [List.mem_cons, not_or] at hy
        exact (out y hy.2).trans (other y hy.1)
      · rcases List.mem_cons.mp hy with rfl | hy
        · have nin : y ∉ l := fun h => lt_irrefl _ (hx y h)
          have store := (Only.eachOf (y :: l) _ loadZone_only s).same .store (by decide)
          refine (out y nin).trans ((loadZone_entry y y s).trans ?_)
          rw [if_pos rfl]
          refine congrArg (fun x => TableEntry.loaded x _) (loadOf_congr (congrArg StoreUnit.sectors store) fun w hw => ?_)
          have hwl : w ∉ l := fun h => absurd (hx w h) (by rw [Fin.lt_def]; omega)
          have hwy : w ≠ y := fun e => by subst e; exact lt_irrefl _ hw
          have e : ((s.eachOf (y :: l) loadZone).zone w).entry = (s.zone w).entry := (out w hwl).trans (other w hwy)
          rw [State.active, State.active, e]
          exact ⟨rfl, rfl⟩
        · refine (inside y hy).trans ?_
          rw [other y (ne_of_gt (hx y hy))]
          rfl
  exact (key allZones s (List.pairwise_lt_finRange 32)).2 z (mem_allZones z)

/-- What start-up makes of a loaded record: scene 0 written over it where its sector is VALID (R16, R177). -/
def sceneOver (l : Vector Sector 41) (z : Zone) (r : ZoneRecord) : ZoneRecord :=
  match l[sceneSector 0].state, l[sceneSector 0].contents with
  | .valid, .scene items => (Change.scene items).write z r
  | _, _ => r

theorem sceneOver_scene {l : Vector Sector 41} {x : Scene} (z : Zone) (h : l[sceneSector 0].state = .valid)
    (k : l[sceneSector 0].contents = .scene x) : sceneOver l z = (Change.scene x).write z := by
  funext r
  simp only [sceneOver, h, k]

theorem sceneOver_absent {l : Vector Sector 41} (z : Zone)
    (h : ∀ x, l[sceneSector 0].state = .valid → l[sceneSector 0].contents = .scene x → False) :
    sceneOver l z = id := by
  funext r
  unfold sceneOver
  split
  · next h1 h2 => exact (h _ h1 h2).elim
  · rfl

theorem applySceneZero_entry (y z : Zone) (s : State) :
    ((applySceneZero z s).zone y).entry =
      if y = z then (s.zone y).entry.both (sceneOver s.store.sectors z) else (s.zone y).entry := by
  unfold applySceneZero
  dsimp only
  split
  · next h1 h2 =>
    rw [sceneOver_scene z h1 h2]
    exact entry_updEntry ..
  · next h =>
    rw [sceneOver_absent z h]
    exact (ite_self _).symm

/-- Scene 0 writes the gain, mute and EQ select alone. -/
theorem sceneOver_eq (l : Vector Sector 41) (z : Zone) (r : ZoneRecord) : sceneOver l z r =
    { r with
      gain := (sceneOver l z r).gain, mute := (sceneOver l z r).mute, eqSelect := (sceneOver l z r).eqSelect } := by
  unfold sceneOver
  split <;> rfl

@[simp] theorem sceneOver_allocation (l : Vector Sector 41) (z : Zone) (r : ZoneRecord) :
    (sceneOver l z r).allocation = r.allocation := by rw [sceneOver_eq]

@[simp] theorem sceneOver_coupling (l : Vector Sector 41) (z : Zone) (r : ZoneRecord) :
    (sceneOver l z r).coupling = r.coupling := by rw [sceneOver_eq]

@[simp] theorem sceneOver_enabled (l : Vector Sector 41) (z : Zone) (r : ZoneRecord) :
    (sceneOver l z r).enabled = r.enabled := by rw [sceneOver_eq]

@[simp] theorem sceneOver_weights (l : Vector Sector 41) (z : Zone) (r : ZoneRecord) :
    (sceneOver l z r).weights = r.weights := by rw [sceneOver_eq]

/-- What scene 0 is written by, and what it is written over. -/
def State.loading (s : State) (z : Zone) : Vector Sector 41 × TableEntry := (s.store.sectors, (s.zone z).entry)

/-- Every entry after scene 0. -/
theorem scenes_entry (z : Zone) (s : State) :
    ((s.eachZone applySceneZero).zone z).entry = (s.zone z).entry.both (sceneOver s.store.sectors z) := by
  have sectors : ∀ z s, (applySceneZero z s).store.sectors = s.store.sectors := fun z s =>
    congrArg StoreUnit.sectors ((applySceneZero_only z s).same .store (by decide)).symm
  have same : ∀ z s, State.loading (applySceneZero z s) z =
      ((s.loading z).1, (s.loading z).2.both (sceneOver (s.loading z).1 z)) := fun z s =>
    Prod.ext (sectors z s) ((applySceneZero_entry z z s).trans (if_pos rfl))
  have other : ∀ z s y, y ≠ z → State.loading (applySceneZero z s) y = s.loading y := fun z s y h =>
    Prod.ext (sectors z s) ((applySceneZero_entry y z s).trans (if_neg h))
  have own := State.eachZone_own State.loading applySceneZero (fun z x => (x.1, x.2.both (sceneOver x.1 z))) same other s z
  simp only [State.loading, Prod.mk.injEq] at own
  exact own.2

/-- Start-up after the load and scene 0 writes no entry. -/
theorem startUp_rest (s : State) : Only [.target, .line, .eq, .power, .mem, .temp, .store, .ports]
    ((s.eachZone loadZone).eachZone applySceneZero) (startUp s) := by
  unfold startUp startRound
  dsimp only
  refine Only.trans ?_ ((roundOn_only ..).mono rfl)
  refine Only.trans ?_ ((loadTimer_only _).mono rfl)
  refine Only.trans ?_ ((updStore_only ..).mono rfl)
  refine Only.trans ?_ ((raiseAll_only ..).mono rfl)
  refine Only.trans ?_ ((Only.eachZone _ eqSetUp_only _).mono rfl)
  refine Only.trans ?_ ((Only.eachZone _ lineUp_only _).mono rfl)
  refine Only.trans ?_ ((Only.eachZone _ (compute_only .record false) _).mono rfl)
  exact (Only.eachZone _ comeUp_only _).mono rfl

/-- Start-up ends with the store READY, and nothing else of the store changed. -/
theorem startUp_store (s : State) : (startUp s).store = { s.store with state := .ready } := by
  unfold startUp startRound
  dsimp only
  rw [← (roundOn_only ..).same .store (by decide), ← (loadTimer_only _).same .store (by decide)]
  refine congrArg (fun x : StoreUnit => { x with state := .ready }) ?_
  have h := ((((((Only.eachZone _ loadZone_only s).mono (m := Part.besides [.store]) rfl).trans
    ((Only.eachZone _ applySceneZero_only _).mono rfl)).trans ((Only.eachZone _ comeUp_only _).mono rfl)).trans
    ((Only.eachZone _ (compute_only .record false) _).mono rfl)).trans
    ((Only.eachZone _ lineUp_only _).mono rfl)).trans ((Only.eachZone _ eqSetUp_only _).mono rfl)
  exact ((h.trans ((raiseAll_only ..).mono rfl)).same .store (by decide)).symm

set_option Elab.async true in
/-- The entries after start-up: each loaded by what the zones of lower number hold, with scene 0 over it. -/
theorem startUp_entry (z : Zone) (s : State) :
    ((startUp s).zone z).entry =
      ((s.zone z).entry.loaded (loadOf (startUp s) z)).both (sceneOver s.store.sectors z) := by
  have sectors : (s.eachZone loadZone).store.sectors = s.store.sectors :=
    congrArg StoreUnit.sectors ((Only.eachZone _ loadZone_only s).same .store (by decide)).symm
  have entry : ∀ y, ((startUp s).zone y).entry =
      ((s.eachZone loadZone).zone y).entry.both (sceneOver s.store.sectors y) := fun y => by
    rw [← (startUp_rest s).same .entry (by decide) y, scenes_entry, sectors]
  rw [entry, loadZones_entry]
  refine congrArg (fun x => TableEntry.both _ (TableEntry.loaded x _)) (loadOf_congr ?_ fun y _ => ?_)
  · rw [sectors, startUp_store]
  · have e : (startUp s).active y = sceneOver s.store.sectors y ((s.eachZone loadZone).active y) :=
      congrArg TableEntry.active (entry y)
    rw [e, sceneOver_allocation, sceneOver_coupling]
    exact ⟨rfl, rfl⟩

end Sys2Proof.Machine
end

section
/-! PROOFS. The table: allocations within delay memory and apart (R2, R12, R59, R60), delay memory in its canonical
form, and the records equal outside the pending groups (R1, R9, R12). -/

namespace Sys2Proof.Machine

-- One theorem at a time, and a long one, marked, on a thread of its own: the compile has 22 GiB. The two linters do
-- not see into such a proof.
set_option Elab.async false
set_option linter.unusedTactic false
set_option linter.unreachableTactic false

variable {s t : State} {l : List Part}

/-! ### Resets and start-up load -/

/-- A reset leaves every zone at its reset values. -/
theorem afterReset_zone (pending : List Instr) (sectors : Vector Sector 41) (temp : TempUnit) (kind : ResetKind)
    (n : Nat) (v : Vector Bool 32) (z : Zone) :
    (afterReset pending sectors temp kind n v).zone z = ZoneState.initial := by
  simp [afterReset, State.zone, State.reset]

/-- The record a zone is loaded with: the default, or that of its VALID sector limited and repaired (R5, R176). -/
theorem loadOf_cases (s : State) (z : Zone) : (loadOf s z).1 = ZoneRecord.default ∨
    ∃ r, (s.sector (zoneSector z)).state = .valid ∧ (s.sector (zoneSector z)).contents = .zone r ∧
      (loadOf s z).1 = repaired s z r.limited := by
  unfold loadOf
  dsimp only
  split
  · next r h1 h2 => exact .inr ⟨r, h1, h2, rfl⟩
  · exact .inl rfl
  · exact .inl rfl

/-- The record a zone holds after start-up is that of its load, but for what scene 0 writes. -/
theorem startUp_active (z : Zone) (s : State) :
    (startUp s).active z = sceneOver s.store.sectors z (loadOf (startUp s) z).1 := by
  rw [State.active, startUp_entry, TableEntry.both, TableEntry.loaded]

theorem startUp_shadow (z : Zone) (s : State) : (startUp s).shadow z = (startUp s).active z := by
  rw [startUp_active, State.shadow, startUp_entry, TableEntry.both, TableEntry.loaded]

theorem Allocation.overlaps_comm (a b : Allocation) : a.overlaps b = b.overlaps a := by
  rw [Allocation.overlaps, Allocation.overlaps]
  exact decide_eq_decide.mpr (by tauto)

/-- An allocation that a load keeps lies in delay memory and apart from those of the zones of lower number. -/
theorem repaired_allocation {z : Zone} {r : ZoneRecord} {a : Allocation}
    (h : (repaired s z r).allocation = some a) : r.allocation = some a ∧ a.inMemory = true ∧
      ∀ y b, y < z → (s.active y).allocation = some b → a.overlaps b = false := by
  have kept : (if allocationDropped s z r then none else r.allocation) = some a := h
  split at kept
  · cases kept
  next hd =>
  refine ⟨kept, ?_⟩
  simp only [allocationDropped, kept, Bool.or_eq_true, Bool.not_eq_true', not_or, Bool.not_eq_false] at hd
  refine ⟨hd.1, fun y b hy hb => ?_⟩
  have none := hd.2
  rw [List.any_eq_true] at none
  by_contra k
  refine none ⟨y, by simpa [loadedBefore] using hy, ?_⟩
  simpa [hb] using k

/-! ### Delay memory -/

theorem MemoryInv.frame (h : MemoryInv s) (k : Only l s t) (hl : Part.among l (Part.besides [.mem]) = true) :
    MemoryInv t := by
  have e : s.mem = t.mem := k.besides hl (p := .mem) (by decide)
  exact (e ▸ h : Memory.wf t.mem)

theorem clearLine_memory (z : Zone) (h : MemoryInv s) : MemoryInv (clearLine z s) := by
  unfold clearLine
  dsimp only
  split
  · exact memClear_wf _ _ h
  · exact h

theorem sampleZone_memory (x : Vector Sample 8) (y : Sample) (k : Nat) (z : Zone) (h : MemoryInv s) :
    MemoryInv (sampleZone x y k z s) := by
  unfold sampleZone
  split
  · have fed := h.frame (feedZone_only x y z s) (by decide)
    generalize feedZone x y z s = u at fed
    have delayed : MemoryInv (delayZone z u.2 u.1).1 := by
      unfold delayZone lineStep
      dsimp only
      split
      · exact memWrite_wf _ _ fed
      · exact fed
    exact delayed.frame (scaleZone_only ..) (by decide)
  · exact h

theorem startUp_memory (h : MemoryInv s) : MemoryInv (startUp s) := by
  unfold startUp startRound
  dsimp only
  refine .frame ?_ (roundOn_only ..) rfl
  refine .frame ?_ (loadTimer_only _) rfl
  refine .frame ?_ (updStore_only ..) rfl
  refine .frame ?_ (raiseAll_only ..) rfl
  refine .frame ?_ (Only.eachZone _ eqSetUp_only _) rfl
  refine State.eachZone_keeps _ (fun z u hu => ?_) _ ?_
  · have k := hu.frame (updLine_only u z fun l => { l with dCur := (u.zone z).target.tgt }) rfl
    unfold lineUp
    dsimp only
    split
    · exact clearLine_memory z k
    · exact k
  refine .frame ?_ (Only.eachZone _ (compute_only .record false) _) rfl
  refine .frame ?_ (Only.eachZone _ comeUp_only _) rfl
  refine .frame ?_ (Only.eachZone _ applySceneZero_only _) rfl
  exact .frame h (Only.eachZone _ loadZone_only _) rfl

theorem enableZone_memory (z : Zone) (h : MemoryInv s) : MemoryInv (enableZone z s) := by
  unfold enableZone
  dsimp only
  refine .frame ?_ (setPower_only ..) rfl
  refine .frame ?_ (updRoute_only ..) rfl
  refine .frame ?_ (eqSetUp_only ..) rfl
  refine .frame ?_ (updLine_only ..) rfl
  exact clearLine_memory z (h.frame (directWrite_only ..) rfl)

set_option Elab.async true in
theorem memoryInv_act (h : MemoryInv s) (a : Act s t) : MemoryInv t := by
  cases a with
  | reset a =>
    cases a with
    | reset => exact reset_memory_wf
    | startUp => exact startUp_memory h
  | tick => exact h.frame (tick_only s) rfl
  | complete => exact h.frame (completeHand_only s) rfl
  | audio a =>
    cases a with
    | slew => exact h.frame (slewZone_only ..) rfl
    | gain => exact h.frame (gainZone_only ..) rfl
    | sample => exact sampleZone_memory _ _ _ _ h
    | clip => exact h.frame (updGain_only ..) rfl
  | service a =>
    cases a with
    | enable => exact enableZone_memory _ h
    | disable => exact h.frame (disableZone_only ..) rfl
  | record a | power a | port a | unit a | set a | plain a => exact h.frame a.only rfl

/-! ### Allocations -/

/-- Allocations are the same in both copies, in delay memory, and apart; the table by its allocations alone. -/
theorem mapped_iff (s : State) : (AllocationInv s ∧ MapInv s) ↔
    (∀ z, (s.shadow z).allocation = (s.active z).allocation) ∧
    (∀ z a, (s.active z).allocation = some a → a.inMemory = true) ∧
    ∀ y z, y ≠ z → ∀ a b, (s.active y).allocation = some a → (s.active z).allocation = some b →
      a.overlaps b = false := by
  have all : ∀ r : ZoneRecord, r.allocated = true ↔ ∀ a, r.allocation = some a → a.inMemory = true := fun r => by
    rw [ZoneRecord.allocated, Option.all_eq_true]
  constructor
  · rintro ⟨h, m, d⟩
    exact ⟨fun z => (m z).symm, fun z => (all _).mp (h z).1, d⟩
  · rintro ⟨m, h, d⟩
    exact ⟨fun z => ⟨(all _).mpr (h z), (all _).mpr (m z ▸ h z)⟩, fun z => (m z).symm, d⟩

/-- A change that keeps the allocations of both copies keeps them in delay memory and apart. -/
theorem mapped_congr (h : AllocationInv s ∧ MapInv s)
    (active : ∀ z, (t.active z).allocation = (s.active z).allocation)
    (shadow : ∀ z, (t.shadow z).allocation = (s.shadow z).allocation) : AllocationInv t ∧ MapInv t := by
  obtain ⟨m, i, d⟩ := (mapped_iff s).mp h
  refine (mapped_iff t).mpr ⟨fun z => ?_, fun z => active z ▸ i z, fun y z hyz => ?_⟩
  · rw [active, shadow, m]
  · rw [active, active]
    exact d y z hyz

theorem Change.write_allocation (c : Change) (z : Zone) (r : ZoneRecord) :
    (c.write z r).allocation = r.allocation := by cases c <;> rfl

theorem Change.write_enabled (c : Change) (z : Zone) (r : ZoneRecord) :
    (c.write z r).enabled = r.enabled := by cases c <;> rfl

/-- Both copies of one zone written, the allocation kept. -/
theorem mapped_both (h : AllocationInv s ∧ MapInv s) {z : Zone} {f : ZoneRecord → ZoneRecord}
    (entry : ∀ y, (t.zone y).entry = if y = z then (s.zone y).entry.both f else (s.zone y).entry)
    (keeps : ∀ r, (f r).allocation = r.allocation) : AllocationInv t ∧ MapInv t := by
  refine mapped_congr h (fun y => ?_) fun y => ?_
  all_goals
    simp only [State.active, State.shadow, entry]
    split
    · exact keeps _
    · rfl

theorem allocate_mapped {z : Zone} {a : Option Allocation} (h : AllocationInv s ∧ MapInv s) (may : Allocatable s z a) :
    AllocationInv (directWrite z .allocation (fun r => { r with allocation := a }) s) ∧
      MapInv (directWrite z .allocation (fun r => { r with allocation := a }) s) := by
  obtain ⟨m, i, d⟩ := (mapped_iff s).mp h
  have active : ∀ y, ((directWrite z .allocation (fun r => { r with allocation := a }) s).active y).allocation =
      if y = z then a else (s.active y).allocation := fun y => by
    rw [State.active, directWrite_entry]
    split <;> rfl
  have shadow : ∀ y, ((directWrite z .allocation (fun r => { r with allocation := a }) s).shadow y).allocation =
      if y = z then a else (s.shadow y).allocation := fun y => by
    rw [State.shadow, directWrite_entry]
    split <;> rfl
  have within : ∀ x, a = some x → x.inMemory = true := fun x e => by
    have k := may.ranged
    rw [e, Option.all_some, Allocation.within, decide_eq_true_iff] at k
    exact decide_eq_true k.2.2.2
  refine (mapped_iff _).mpr ⟨fun y => ?_, fun y x hx => ?_, fun x y hxy b c hb hc => ?_⟩
  · rw [active, shadow, m]
  · rw [active] at hx
    split at hx
    · exact within x hx
    · exact i y x hx
  · rw [active] at hb hc
    split at hb
    · next e =>
      rw [if_neg fun k => hxy (e.trans k.symm)] at hc
      exact may.apart y c b (fun k => hxy (e.trans k.symm)) hc hb
    · next e =>
      split at hc
      · exact b.overlaps_comm c ▸ may.apart x b c e hb hc
      · exact d x y hxy b c hb hc

theorem startUp_mapped (s : State) : AllocationInv (startUp s) ∧ MapInv (startUp s) := by
  have kept : ∀ z a, ((startUp s).active z).allocation = some a → a.inMemory = true ∧
      ∀ y b, y < z → ((startUp s).active y).allocation = some b → a.overlaps b = false := fun z a h => by
    rw [startUp_active, sceneOver_allocation] at h
    rcases loadOf_cases (startUp s) z with e | ⟨r, -, -, e⟩
    · rw [e] at h; cases h
    · rw [e] at h
      exact (repaired_allocation h).2
  refine (mapped_iff _).mpr ⟨fun z => congrArg _ (startUp_shadow z s), fun z a h => (kept z a h).1,
    fun y z hyz a b ha hb => ?_⟩
  rcases lt_or_gt_of_ne hyz with k | k
  · exact b.overlaps_comm a ▸ (kept z b hb).2 y a k ha
  · exact (kept y a ha).2 z b k hb

theorem reset_mapped (l : List Instr) (x : Vector Sector 41) (temp : TempUnit) (kind : ResetKind) (n : Nat)
    (v : Vector Bool 32) : AllocationInv (afterReset l x temp kind n v) ∧ MapInv (afterReset l x temp kind n v) := by
  refine (mapped_iff _).mpr ⟨fun z => ?_, fun z a e => ?_, fun y z _ a b e => ?_⟩
  · simp [State.shadow, State.active, afterReset_zone, ZoneState.initial]
  · simp [State.active, afterReset_zone, ZoneState.initial, ZoneRecord.default] at e
  · simp [State.active, afterReset_zone, ZoneState.initial, ZoneRecord.default] at e

theorem transferWork_mapped (h : AllocationInv s ∧ MapInv s) :
    AllocationInv (transferWork s) ∧ MapInv (transferWork s) := by
  have shadow : ∀ z, (transferWork s).shadow z = s.shadow z := fun z => by
    rw [State.shadow, transferWork_entry, transferEntry]
    split <;> rfl
  refine mapped_congr h (fun z => ?_) fun z => congrArg _ (shadow z)
  rw [State.active, transferWork_entry, transferEntry]
  split
  · exact (h.2.1 z).symm
  · rfl

theorem completeHand_mapped (h : AllocationInv s ∧ MapInv s) :
    AllocationInv (completeHand s) ∧ MapInv (completeHand s) := by
  rcases completeHand_entry s with e | ⟨hand, -, -, e⟩
  · exact mapped_congr h (fun z => by rw [State.active, e, State.active]) fun z => by
      rw [State.shadow, e, State.shadow]
  · refine mapped_congr h (fun z => ?_) fun z => ?_
    · rw [State.active, e, writeChange_entry]
      split <;> rfl
    · rw [State.shadow, e, writeChange_entry]
      split
      · exact Change.write_allocation ..
      · rfl

set_option Elab.async true in
theorem mapped_act (h : AllocationInv s ∧ MapInv s) (a : Act s t) : AllocationInv t ∧ MapInv t := by
  have frame : ∀ {l : List Part} {u : State}, Only l s u → Part.among l (Part.besides [.entry]) = true →
      AllocationInv u ∧ MapInv u := fun k hl => by
    have entry := k.besides hl (p := .entry) (by decide)
    exact mapped_congr h (fun z => by rw [State.active, ← entry, State.active])
      fun z => by rw [State.shadow, ← entry, State.shadow]
  cases a with
  | reset a =>
    cases a with
    | reset => exact reset_mapped _ _ _ _ _ _
    | startUp => exact startUp_mapped s
  | tick => exact frame (tick_only s) rfl
  | complete => exact completeHand_mapped h
  | service a =>
    cases a with
    | enable => exact mapped_both h (fun y => enableZone_entry y _ s) fun _ => rfl
    | disable => exact mapped_both h (fun y => disableZone_entry y _ s) fun _ => rfl
  | record a =>
    cases a with
    | transfer => exact transferWork_mapped h
    | allocate may => exact allocate_mapped h may
    | compute => exact frame (computeOne_only ..) rfl
  | power a | audio a | port a | unit a | set a | plain a => exact frame a.only rfl

/-- Settles O5: memory is only written and cleared, each in the canonical form; an allocation is written by ALLOCATE
past its checks, or at start-up load where it is not dropped, and every other write of a record keeps it. -/
theorem pagesKept : Obligations.PagesKept := ⟨kept_of_acts memoryInv_act, kept_of_acts mapped_act⟩

/-! ### The pending groups -/

/-- The records of an entry are equal outside its pending groups, which are groups of the queue, each once. -/
def TableEntry.Tabled (e : TableEntry) : Prop :=
  e.groups.Nodup ∧ (∀ g ∈ e.groups, g ∈ queuedGroups) ∧ ∀ g : FieldGroup, g ∉ e.groups → g.agrees e.active e.shadow

theorem FieldGroup.agrees_refl (g : FieldGroup) (r : ZoneRecord) : g.agrees r r := by
  cases g <;> simp [FieldGroup.agrees]

theorem mem_joinGroup {g x : FieldGroup} {l : List FieldGroup} :
    x ∈ joinGroup g l ↔ x ∈ queuedGroups ∧ (x = g ∨ x ∈ l) := by
  simp [joinGroup]

theorem joinGroup_nodup (g : FieldGroup) (l : List FieldGroup) : (joinGroup g l).Nodup :=
  List.Nodup.filter _ (by decide)

set_option Elab.async true in
theorem Change.groups_queued (c : Change) : ∀ g ∈ c.groups, g ∈ queuedGroups := by
  cases c with
  | eqBank b _ =>
    have banks : ∀ b : Fin 4, FieldGroup.bank b ∈ queuedGroups := by decide
    simpa [Change.groups] using banks b
  | _ => simp [Change.groups, queuedGroups]

/-- The groups of a change join a set of groups of the queue. -/
theorem joined_groups (m l : List FieldGroup) (hm : ∀ g ∈ m, g ∈ queuedGroups) (hl : ∀ g ∈ l, g ∈ queuedGroups)
    (nodup : l.Nodup) : (m.foldr joinGroup l).Nodup ∧
      ∀ g, g ∈ m.foldr joinGroup l ↔ g ∈ m ∨ g ∈ l := by
  induction m with
  | nil => exact ⟨nodup, fun g => by simp⟩
  | cons x m ih =>
    obtain ⟨-, ih⟩ := ih fun g h => hm g (List.mem_cons_of_mem _ h)
    refine ⟨joinGroup_nodup .., fun g => ?_⟩
    rw [List.foldr_cons, mem_joinGroup, ih, List.mem_cons, or_assoc]
    refine and_iff_right_of_imp ?_
    rintro (rfl | h | h)
    · exact hm _ List.mem_cons_self
    · exact hm _ (List.mem_cons_of_mem _ h)
    · exact hl _ h

set_option Elab.async true in
/-- A change writes no group but its own. -/
theorem Change.write_agrees {c : Change} {g : FieldGroup} (h : g ∉ c.groups) (z : Zone) {a b : ZoneRecord}
    (k : g.agrees a b) : g.agrees a (c.write z b) := by
  cases c with
  | eqBank n x =>
    cases g with
    | bank m =>
      have ne : n.val ≠ m.val := fun e => h (by simp [Change.groups, Fin.ext e])
      simpa [FieldGroup.agrees, Change.write, Vector.getElem_set, ne] using k
    | _ => exact k
  | _ =>
    cases g <;> first | exact k | exact absurd (by simp [Change.groups]) h

theorem TableEntry.Tabled.written {e : TableEntry} (h : e.Tabled) (c : Change) (z : Zone) : (e.written c z).Tabled := by
  obtain ⟨nodup, queued, agrees⟩ := h
  obtain ⟨n, m⟩ := joined_groups c.groups e.groups c.groups_queued queued nodup
  refine ⟨n, fun g hg => ?_, fun g hg => ?_⟩
  · exact ((m g).mp hg).elim (c.groups_queued g) (queued g)
  · have k := fun x => hg ((m g).mpr x)
    exact Change.write_agrees (fun x => k (.inl x)) z (agrees g fun x => k (.inr x))

/-- Both copies written, in a group that is equal in both. -/
theorem TableEntry.Tabled.both {e : TableEntry} (h : e.Tabled) {f : ZoneRecord → ZoneRecord}
    (hf : ∀ (g : FieldGroup) a b, g.agrees a b → g.agrees (f a) (f b)) : (e.both f).Tabled :=
  ⟨h.1, h.2.1, fun g k => hf g _ _ (h.2.2 g k)⟩

/-- Both copies loaded alike. -/
theorem TableEntry.Tabled.loaded {e : TableEntry} (h : e.Tabled) (x : ZoneRecord × LoadStatus)
    (f : ZoneRecord → ZoneRecord) : ((e.loaded x).both f).Tabled := ⟨h.1, h.2.1, fun g _ => g.agrees_refl _⟩

theorem transferEntry_tabled {e : TableEntry} (h : e.Tabled) : (transferEntry e).Tabled := by
  unfold transferEntry
  split
  · exact ⟨.nil, nofun, fun g _ => g.agrees_refl _⟩
  · exact h

theorem agrees_enabled (x : Bool) (g : FieldGroup) (a b : ZoneRecord) (h : g.agrees a b) :
    g.agrees { a with enabled := x } { b with enabled := x } := by
  cases g <;> first | exact h | rfl

theorem agrees_allocation (x : Option Allocation) (g : FieldGroup) (a b : ZoneRecord) (h : g.agrees a b) :
    g.agrees { a with allocation := x } { b with allocation := x } := by
  cases g <;> first | exact h | rfl

theorem tableInv_iff (s : State) : TableInv s ↔ ∀ z, (s.zone z).entry.Tabled := Iff.rfl

/-- One zone's entry changed. -/
theorem tableInv_entry (h : TableInv s) {z : Zone} {f : TableEntry → TableEntry}
    (entry : ∀ y, (t.zone y).entry = if y = z then f (s.zone y).entry else (s.zone y).entry)
    (hf : ∀ e, e.Tabled → (f e).Tabled) : TableInv t := fun y => by
  show TableEntry.Tabled _
  rw [entry]
  split
  · exact hf _ (h y)
  · exact h y

theorem reset_tabled (l : List Instr) (x : Vector Sector 41) (temp : TempUnit) (kind : ResetKind) (n : Nat)
    (v : Vector Bool 32) : TableInv (afterReset l x temp kind n v) := by
  refine (tableInv_iff _).mpr fun z => ?_
  have initial : ZoneState.initial.entry.Tabled := ⟨.nil, nofun, fun g _ => g.agrees_refl _⟩
  simpa only [afterReset_zone] using initial

theorem completeHand_tabled (h : TableInv s) : TableInv (completeHand s) := by
  refine (tableInv_iff _).mpr fun z => ?_
  rcases completeHand_entry s with e | ⟨hand, -, -, e⟩
  · rw [e]; exact h z
  · rw [e, writeChange_entry]
    split
    · exact (show TableEntry.Tabled _ from h z).written ..
    · exact h z

set_option Elab.async true in
theorem tableInv_act (h : TableInv s) (a : Act s t) : TableInv t := by
  have frame : ∀ {l : List Part} {u : State}, Only l s u → Part.among l (Part.besides [.entry]) = true → TableInv u :=
    fun k hl => (tableInv_iff _).mpr fun z => k.besides hl (p := .entry) (by decide) z ▸ (tableInv_iff s).mp h z
  cases a with
  | reset a =>
    cases a with
    | reset => exact reset_tabled _ _ _ _ _ _
    | startUp => exact (tableInv_iff _).mpr fun z => startUp_entry z s ▸ TableEntry.Tabled.loaded (h z) _ _
  | tick => exact frame (tick_only s) rfl
  | complete => exact completeHand_tabled h
  | service a =>
    cases a with
    | enable => exact tableInv_entry h (fun y => enableZone_entry y _ s) fun _ k => k.both (agrees_enabled true)
    | disable => exact tableInv_entry h (fun y => disableZone_entry y _ s) fun _ k => k.both (agrees_enabled false)
  | record a =>
    cases a with
    | transfer => exact (tableInv_iff _).mpr fun z => transferWork_entry z s ▸ transferEntry_tabled (h z)
    | allocate => exact tableInv_entry h (fun y => directWrite_entry y _ _ _ s) fun _ k => k.both (agrees_allocation _)
    | compute => exact frame (computeOne_only ..) rfl
  | power a | audio a | port a | unit a | set a | plain a => exact frame a.only rfl

/-- Settles O6: a completed change writes its own groups alone and they join the pending groups, a transfer makes both
copies equal, and every other write of a record writes both copies alike. -/
theorem tableKept : Obligations.TableKept := kept_of_acts tableInv_act

end Sys2Proof.Machine
end

section
/-! PROOFS. What a change of a power state, a winner notice and a new route set make of the power states and the routes
(R120 to R126, R130, R133, R134); whether a zone is in service; and that start-up finds every zone DISABLED (R143). -/

namespace Sys2Proof.Machine

-- One theorem at a time, and a long one, marked, on a thread of its own: the compile has 22 GiB. The two linters do
-- not see into such a proof.
set_option Elab.async false
set_option linter.unusedTactic false
set_option linter.unreachableTactic false

variable {s t : State} {l : List Part}

/-! ### Zones one by one -/

/-- A part of the zones that an operation leaves alone keeps every power state. -/
theorem Only.powerOf (k : Only l s t) (hl : Part.power ∉ l) (z : Zone) : t.powerOf z = s.powerOf z :=
  congrArg PowerUnit.state (k.same .power hl z).symm

/-- What each zone's own change makes of it and no other change undoes, holds of every zone after a fold over all. -/
theorem State.eachZone_all {P : State → Zone → Prop} {f : Zone → State → State} (own : ∀ z s, P (f z s) z)
    (keeps : ∀ z s y, P s y → P (f z s) y) (s : State) (z : Zone) : P (s.eachZone f) z := by
  have key : ∀ (l : List Zone) (s : State), z ∈ l ∨ P s z → P (s.eachOf l f) z := by
    intro l
    induction l with
    | nil => exact fun s h => h.resolve_left List.not_mem_nil
    | cons y l ih =>
      intro s h
      refine ih (f y s) ?_
      rcases h with h | h
      · rcases List.mem_cons.mp h with rfl | h
        · exact .inr (own z s)
        · exact .inl h
      · exact .inr (keeps y s z h)
  exact key allZones s (.inl (mem_allZones z))

/-! ### Winner notices (R133, R134) -/

/-- The power state a winner notice leaves, with the drain time a zone would drain for (R133). -/
def PowerState.onWinner (p : PowerState) (drain : Nat) (before after : Option RouteEntry) : PowerState :=
  if before.isSome = after.isSome then p
  else match p with
    | .parked => if after.isSome then .wakeWait else p
    | .wakeWait => if after.isSome then p else .parked
    | .waking _ => if after.isSome then p else .draining drain drain
    | .draining _ _ => if after.isSome then .live else p
    | .live | .disabled => p

theorem PowerState.onWinner_inService (p : PowerState) (n : Nat) (a b : Option RouteEntry) :
    (p.onWinner n a b).inService = p.inService := by
  cases p <;> cases a <;> cases b <;> rfl

theorem winnerPower_eq (z : Zone) (a b : Option RouteEntry) (s : State) :
    winnerPower z a b s = if (s.powerOf z).onWinner (s.drainTime z) a b = s.powerOf z then s
      else setPower z ((s.powerOf z).onWinner (s.drainTime z) a b) s := by
  unfold winnerPower
  cases s.powerOf z <;> cases a <;> cases b
  case parked.none.some | wakeWait.some.none | waking.some.none | draining.none.some =>
    exact (if_neg PowerState.noConfusion).symm
  all_goals exact (if_pos rfl).symm

theorem powerOf_winnerPower (z y : Zone) (a b : Option RouteEntry) (s : State) :
    (winnerPower z a b s).powerOf y =
      if y = z then (s.powerOf z).onWinner (s.drainTime z) a b else s.powerOf y := by
  rw [winnerPower_eq]
  split
  · next h =>
    rw [h]
    split
    · next e => rw [e]
    · rfl
  · exact powerOf_setPower ..

theorem powerOf_fadeEndPower (z y : Zone) (s : State) : (fadeEndPower z s).powerOf y =
    if y = z ∧ (s.powerOf z = .live ∧ (s.zone z).route.fade = .atRest none ∧ (s.zone z).route.entries = [])
    then .draining (s.drainTime z) (s.drainTime z) else s.powerOf y := by
  unfold fadeEndPower
  split
  · next h =>
    rw [enterDraining, powerOf_setPower]
    exact if_congr (and_iff_left h).symm rfl rfl
  · next h => exact (if_neg fun k => h k.2).symm

/-! ### A new route set (R120 to R126, R133, R134) -/

/-- The fade record of a zone after the winner notice of a new set, and whether it cuts or ends a fade. -/
def State.turned (s : State) (z : Zone) (l : List RouteEntry) : Fade × Bool :=
  (s.zone z).route.fade.onWinner (s.powerOf z) (s.active z).fadeLength l.head?

/-- The power state of a zone after a new set. -/
def State.routed (s : State) (z : Zone) (l : List RouteEntry) : PowerState :=
  if s.winner z = l.head? then s.powerOf z
  else if (s.turned z l).2 = true ∧ (s.powerOf z).onWinner (s.drainTime z) (s.winner z) l.head? = .live ∧
      (s.turned z l).1 = .atRest none ∧ l = [] then .draining (s.drainTime z) (s.drainTime z)
  else (s.powerOf z).onWinner (s.drainTime z) (s.winner z) l.head?

/-- A set written into a zone, its winner unchanged. -/
theorem setRoutes_same {z : Zone} {l : List RouteEntry} (h : s.winner z = l.head?) :
    setRoutes z l s = s.updRoute z fun r => { r with entries := l } := by
  have after : (s.updRoute z fun r => { r with entries := l }).winner z = l.head? := by
    rw [State.winner, updRoute_route, if_pos rfl, RouteState.winner]
  simp only [setRoutes, after, if_pos h]

/-- The zone with its new set and the fade record that answers it. -/
def routeWritten (z : Zone) (l : List RouteEntry) (s : State) : State :=
  s.updRoute z fun r => { r with entries := l, fade := (s.turned z l).1 }

theorem setRoutes_other {z : Zone} {l : List RouteEntry} (h : s.winner z ≠ l.head?) :
    setRoutes z l s = if (s.turned z l).2 then
        fadeEndPower z (winnerPower z (s.winner z) l.head? (routeWritten z l s))
      else winnerPower z (s.winner z) l.head? (routeWritten z l s) := by
  have after : (s.updRoute z fun r => { r with entries := l }).winner z = l.head? := by
    rw [State.winner, updRoute_route, if_pos rfl, RouteState.winner]
  have only := updRoute_only s z fun r => { r with entries := l }
  have fade : ((s.updRoute z fun r => { r with entries := l }).zone z).route.fade = (s.zone z).route.fade := by
    rw [updRoute_route, if_pos rfl]
  have active : (s.updRoute z fun r => { r with entries := l }).active z = s.active z :=
    congrArg TableEntry.active (only.same .entry (by decide) z).symm
  have twice : (s.updRoute z fun r => { r with entries := l }).updRoute z
      (fun r => { r with fade := (s.turned z l).1 }) = routeWritten z l s := State.updZone_updZone ..
  simp only [setRoutes, after, if_neg h, fade, active, only.powerOf (by decide) z]
  exact twice ▸ rfl

theorem routeWritten_only (z : Zone) (l : List RouteEntry) (s : State) : Only [.route] s (routeWritten z l s) :=
  updRoute_only ..

theorem routeWritten_drainTime (z y : Zone) (l : List RouteEntry) (s : State) :
    (routeWritten z l s).drainTime y = s.drainTime y := by
  rw [State.drainTime, State.drainTime, State.active, ← (routeWritten_only z l s).same .entry (by decide) y,
    ← (routeWritten_only z l s).same .line (by decide) y]
  rfl

/-- The routes after a new set of one zone. -/
theorem setRoutes_route (z y : Zone) (l : List RouteEntry) (s : State) : ((setRoutes z l s).zone y).route =
    if y = z then { (s.zone z).route with
      entries := l, fade := if s.winner z = l.head? then (s.zone z).route.fade else (s.turned z l).1 }
    else (s.zone y).route := by
  by_cases h : s.winner z = l.head?
  · rw [setRoutes_same h, updRoute_route, if_pos h]
    split
    · next e => rw [e]
    · rfl
  · have noticed := winnerPower_only z (s.winner z) l.head? (routeWritten z l s)
    have ended := Only.ite ((s.turned z l).2 = true)
      (noticed.trans (fadeEndPower_only z _)) noticed
    rw [setRoutes_other h, ← ended.same .route (by decide) y, if_neg h, routeWritten, updRoute_route]
    split
    · next e => rw [e]
    · rfl

set_option Elab.async true in
/-- The power states after a new set of one zone. -/
theorem powerOf_setRoutes (z y : Zone) (l : List RouteEntry) (s : State) :
    (setRoutes z l s).powerOf y = if y = z then s.routed z l else s.powerOf y := by
  by_cases h : s.winner z = l.head?
  · rw [setRoutes_same h, (updRoute_only ..).powerOf (by decide), State.routed, if_pos h]
    split
    · next e => rw [e]
    · rfl
  · have noticed : ∀ y, (winnerPower z (s.winner z) l.head? (routeWritten z l s)).powerOf y =
        if y = z then (s.powerOf z).onWinner (s.drainTime z) (s.winner z) l.head? else s.powerOf y := fun y => by
      rw [powerOf_winnerPower, routeWritten_drainTime, (routeWritten_only ..).powerOf (by decide),
        (routeWritten_only ..).powerOf (by decide)]
    have route : ((winnerPower z (s.winner z) l.head? (routeWritten z l s)).zone z).route =
        { (s.zone z).route with entries := l, fade := (s.turned z l).1 } := by
      rw [← (winnerPower_only ..).same .route (by decide) z, routeWritten, updRoute_route, if_pos rfl]
    have drain : (winnerPower z (s.winner z) l.head? (routeWritten z l s)).drainTime z = s.drainTime z := by
      rw [← routeWritten_drainTime z z l s, State.drainTime, State.drainTime, State.active,
        ← (winnerPower_only ..).same .entry (by decide) z, ← (winnerPower_only ..).same .line (by decide) z]
      rfl
    rw [setRoutes_other h, State.routed, if_neg h]
    by_cases e : (s.turned z l).2 = true
    · rw [if_pos e, powerOf_fadeEndPower, noticed, noticed, if_pos rfl, route, drain]
      by_cases hy : y = z <;> simp [hy, e]
    · rw [if_neg e, noticed, if_neg fun k : (s.turned z l).2 = true ∧ _ => e k.1]

theorem State.routed_inService (s : State) (z : Zone) (l : List RouteEntry) :
    (s.routed z l).inService = (s.powerOf z).inService := by
  have follows := (s.powerOf z).onWinner_inService (s.drainTime z) (s.winner z) l.head?
  unfold State.routed
  split
  · rfl
  · split
    · next h => rw [← follows, h.2.1]; rfl
    · exact follows

/-! ### The power states of the other acts -/

theorem fadeRest_powerOf (z y : Zone) (s : State) :
    (fadeEndPower z (s.updRoute z fun r => { r with fade := r.fade.finish })).powerOf y =
      if y = z ∧ (s.powerOf z = .live ∧ (s.zone z).route.fade.finish = .atRest none ∧ (s.zone z).route.entries = [])
      then .draining (s.drainTime z) (s.drainTime z) else s.powerOf y := by
  have only := updRoute_only s z fun r => { r with fade := r.fade.finish }
  have drain : (s.updRoute z fun r => { r with fade := r.fade.finish }).drainTime z = s.drainTime z := by
    rw [State.drainTime, State.drainTime, State.active, ← only.same .entry (by decide) z, ← only.same .line (by decide) z]
    rfl
  rw [powerOf_fadeEndPower, drain, only.powerOf (by decide), only.powerOf (by decide), updRoute_route, if_pos rfl]

theorem powerOf_grant (z y : Zone) (s : State) : (grant z s).powerOf y =
    if y = z then (if (s.active z).wakeTime = 0 then .live else .waking (s.active z).wakeTime) else s.powerOf y := by
  unfold grant
  dsimp only
  split
  · rw [powerOf_setPower, powerOf_setPower]
    split <;> rfl
  · rw [powerOf_setPower]

theorem tick_power (z : Zone) (s : State) : ((tick s).zone z).power = (s.zone z).power.tick := by
  have counted : ((s.eachZone fun z s => s.updPower z PowerUnit.tick).zone z).power = (s.zone z).power.tick :=
    State.eachZone_own (fun s z => (s.zone z).power) (fun z s => s.updPower z PowerUnit.tick) (fun _ => PowerUnit.tick)
      (fun z s => (updPower_power s z z _).trans (if_pos rfl))
      (fun z s y h => (updPower_power s y z _).trans (if_neg h)) s z
  rw [← counted]
  exact ((tickRest_only _ _ _ _ _ _ _ _).same .power (by decide) z).symm

/-- Counting a frame mark leaves the store's state alone. -/
theorem tick_store (s : State) : (tick s).store.state = s.store.state := by
  have kept : ∀ x : StoreUnit, x.tick.state = x.state := fun x => by
    unfold StoreUnit.tick
    split <;> rfl
  have store : s.store = (s.eachZone fun z s => s.updPower z PowerUnit.tick).store :=
    (Only.eachZone (l := [.power]) _ (fun z s => updPower_only s z PowerUnit.tick) s).same .store (by decide)
  rw [store]
  exact kept _

theorem PowerState.tick_inService (p : PowerState) : p.tick.inService = p.inService := by cases p <;> rfl

theorem PowerUnit.tick_cases (x : PowerUnit) : x.tick.state = x.state ∨ x.tick.state = x.state.tick := by
  unfold PowerUnit.tick
  split
  · exact .inl rfl
  · exact .inr rfl

theorem powerOf_tick (z : Zone) (s : State) :
    (tick s).powerOf z = s.powerOf z ∨ (tick s).powerOf z = (s.powerOf z).tick := by
  rw [State.powerOf, tick_power]
  exact (s.zone z).power.tick_cases

theorem powerOf_enableZone (z y : Zone) (s : State) :
    (enableZone z s).powerOf y = if y = z then .parked else s.powerOf y := by
  unfold enableZone
  dsimp only
  rw [powerOf_setPower]
  split
  · rfl
  · rw [(updRoute_only ..).powerOf (by decide), (eqSetUp_only ..).powerOf (by decide),
      (updLine_only ..).powerOf (by decide), (clearLine_only ..).powerOf (by decide),
      (directWrite_only ..).powerOf (by decide)]

/-- A probe that drops its entry in a zone without one changes no route. -/
theorem probeDrop_empty {z : Zone} (h : (s.zone z).route.entries = []) : Only [] s (probeDrop z s) := by
  have winner : s.winner z = (routeRemove .C 8 (s.zone z).route.entries).head? := by
    rw [State.winner, RouteState.winner, h]
    rfl
  have route : ∀ y, (s.zone y).route = ((probeDrop z s).zone y).route := fun y => by
    rw [probeDrop, setRoutes_same winner, updRoute_route, h]
    split
    · next e =>
      subst e
      rw [show routeRemove .C 8 [] = [] from rfl, ← h]
    · rfl
  rw [probeDrop, setRoutes_same winner] at route ⊢
  refine ⟨fun p _ => ?_⟩
  by_cases hp : p = .route
  · subst hp
    exact route
  · exact (updRoute_only s z _).same p (by simpa using hp)

/-- A probe that loses its entry in a zone emptied before changes no route. -/
theorem probeRemoved_empty {z : Zone} (r : CancelReason) (h : (s.zone z).route.entries = []) :
    Only [.probe, .ports] s (probeRemoved z r s) := by
  have cancelled : Only [.probe, .ports] s (raiseCancelled z r (probeIdle z (abortWindow s))) := by
    have aborted := (abortWindow_only s).trans
      ((updProbe_only (abortWindow s) fun x => { x with state := .idle }).mono (m := [.probe, .ports]) rfl)
    have empty := aborted.same .route (by decide) z ▸ h
    exact (aborted.trans ((probeDrop_empty empty).mono rfl)).trans ((raiseCancelled_only ..).mono rfl)
  unfold probeRemoved
  split
  · next e =>
    subst e
    split
    · exact .refl ..
    · exact .refl ..
    all_goals exact cancelled
  · exact .refl ..

theorem powerOf_disableZone (z y : Zone) (s : State) :
    (disableZone z s).powerOf y = if y = z then .disabled else s.powerOf y := by
  have emptied := updRoute_only s z fun r => { r with entries := [], fade := .atRest none }
  have empty : ((s.updRoute z fun r => { r with entries := [], fade := .atRest none }).zone z).route.entries = [] := by
    rw [updRoute_route, if_pos rfl]
  have removed := Only.ite ((s.zone z).route.entries.any RouteEntry.isProbe = true)
    ((emptied.mono (m := [.route, .probe, .ports]) rfl).trans ((probeRemoved_empty .zoneDisabled empty).mono rfl))
    (emptied.mono rfl)
  unfold disableZone
  dsimp only
  rw [(raiseLost_only ..).powerOf (by decide), (raiseLost_only ..).powerOf (by decide),
    (updLine_only ..).powerOf (by decide), (directWrite_only ..).powerOf (by decide), powerOf_setPower,
    removed.powerOf (by decide)]

theorem inService_iff {p : PowerState} : p.inService = false ↔ p = .disabled := by
  cases p <;> simp [PowerState.inService]

theorem inService_of_ne {p : PowerState} (h : p ≠ .disabled) : p.inService = true := by
  rw [← Bool.not_eq_false]
  exact fun k => h (inService_iff.mp k)

theorem ne_disabled_of {p : PowerState} (h : p.inService = true) : p ≠ .disabled := fun e => by
  rw [e] at h; cases h

/-- An act that writes no entry takes no zone into service or out of it. -/
theorem tick_inService (z : Zone) (s : State) : ((tick s).powerOf z).inService = (s.powerOf z).inService := by
  rcases powerOf_tick z s with e | e
  · rw [e]
  · rw [e, PowerState.tick_inService]

/-- A change of one zone's power state that keeps it in service, or out of it. -/
theorem inService_of_one {z y : Zone} {c : Prop} [Decidable c] {p : PowerState}
    (power : t.powerOf y = if y = z ∧ c then p else s.powerOf y) (same : c → p.inService = (s.powerOf z).inService) :
    (t.powerOf y).inService = (s.powerOf y).inService := by
  rw [power]
  split
  · next e => rw [same e.2, e.1]
  · rfl

/-- No change of a route, a fade or a power state between PARKED and DRAINING takes a zone out of service. -/
theorem PowerAct.inService (a : PowerAct s t) (z : Zone) : (t.powerOf z).inService = (s.powerOf z).inService := by
  have one : ∀ {y : Zone} {p : PowerState}, t.powerOf z = (if z = y then p else s.powerOf z) →
      p.inService = (s.powerOf y).inService → (t.powerOf z).inService = (s.powerOf z).inService := fun e k => by
    rw [e]
    split
    · next w => rw [k, w]
    · rfl
  cases a with
  | routes => exact one (powerOf_setRoutes ..) (s.routed_inService ..)
  | fadeRest y => exact inService_of_one (fadeRest_powerOf y z s) fun e => by rw [e.1]; rfl
  | wake h => exact one (powerOf_setPower ..) (by rw [h]; rfl)
  | park h => exact one (powerOf_setPower ..) (by rw [h]; rfl)
  | grant h => exact one (powerOf_grant ..) (by rw [h]; split <;> rfl)
  | crossfadeEnd y => rw [(crossfadeFinish_only y s).powerOf (by decide)]

/-! ### Start-up (R143) -/

/-- During start-up every zone is DISABLED. -/
def Dormant (s : State) : Prop := s.starting = true → ∀ z, s.powerOf z = .disabled

set_option Elab.async true in
/-- No act but a reset begins start-up. -/
theorem starting_act (a : Act s t) (h : t.starting = true) : s.starting = true ∨ ∀ z, t.powerOf z = .disabled := by
  have frame : ∀ {l : List Part} {u : State}, Only l s u → Part.among l (Part.besides [.store]) = true →
      u.starting = true → s.starting = true := fun k hl e => by
    have store := k.besides hl (p := .store) (by decide)
    rw [starting_iff, ← store] at e
    exact starting_iff.mpr e
  cases a with
  | reset a =>
    cases a with
    | reset => exact .inr fun z => by simp [State.powerOf, afterReset_zone, ZoneState.initial]
    | startUp hs => exact .inl hs
  | tick =>
    rw [starting_iff, tick_store] at h
    exact .inl (starting_iff.mpr h)
  | complete => exact .inl (frame (completeHand_only s) rfl h)
  | unit a =>
    cases a with
    | probe => exact .inl (frame (updProbe_only ..) rfl h)
    | store kept => exact .inl (starting_iff.mpr (kept.starting.mp (starting_iff.mp h)))
    | supervision => exact .inl (frame (supervision_only ..) rfl h)
  | service a | record a | power a | audio a | port a | set a | plain a => exact .inl (frame a.only rfl h)

set_option Elab.async true in
theorem dormant_act (h : Dormant s) (a : Act s t) : Dormant t := by
  intro ht z
  rcases starting_act a ht with hs | all
  · have still : (t.powerOf z).inService = (s.powerOf z).inService → t.powerOf z = .disabled := fun e => by
      rw [← inService_iff, e, inService_iff]
      exact h hs z
    have frame : ∀ {l : List Part}, Only l s t → Part.among l (Part.besides [.power]) = true →
        (t.powerOf z).inService = (s.powerOf z).inService := fun k hl => by
      rw [State.powerOf, State.powerOf, k.besides hl (p := .power) (by decide) z]
    cases a with
    | reset a =>
      cases a with
      | reset => simp [State.powerOf, afterReset_zone, ZoneState.initial]
      | startUp =>
        rw [starting_iff, startUp_store] at ht
        cases ht
    | service a =>
      cases a with
      | enable running => rw [running] at hs; cases hs
      | disable running => rw [running] at hs; cases hs
    | tick => exact still (tick_inService z s)
    | complete => exact still (frame (completeHand_only s) rfl)
    | power a => exact still (a.inService z)
    | record a | audio a | port a | unit a | set a | plain a => exact still (frame a.only rfl)
  · exact all z

end Sys2Proof.Machine
end

section
/-! PROOFS. The delays: the enabled field with the power state (R12, R13), the target within the capacity (R46 to R48), and
D_cur and the write position within the line (R63, R65, R68, R71). -/

namespace Sys2Proof.Machine

-- One theorem at a time, and a long one, marked, on a thread of its own: the compile has 22 GiB. The two linters do
-- not see into such a proof.
set_option Elab.async false
set_option linter.unusedTactic false
set_option linter.unreachableTactic false

variable {s t : State} {l : List Part}

/-! ### Computations -/

/-- A computation writes the target fields of its zone alone. -/
theorem computeOne_zone (c : ComputationClass) (z y : Zone) (s : State) : (computeOne c z s).zone y =
    if y = z then { s.zone z with target := (settleTarget c (s.active z).enabled s.settings.deadband (formFields s z)).1 }
    else s.zone y := by
  have zones : ∀ (u : State) x r, (raiseHeld (u.updTarget z fun _ => x) z r x).zone y =
      if y = z then { u.zone z with target := x } else u.zone y := fun u x r => by
    have held : (raiseHeld (u.updTarget z fun _ => x) z r x).zones = (u.updTarget z fun _ => x).zones := by
      unfold raiseHeld
      (repeat' split) <;> rfl
    rw [State.zone, held, ← State.zone, State.updTarget, State.zone_updZone]
    split
    · next e => rw [e]
    · rfl
  have clamped : ∀ (u : State) x, (raiseClamped u z x).zones = u.zones := fun u x => by
    unfold raiseClamped
    split <;> rfl
  simp only [computeOne]
  split
  · rw [State.zone, clamped, ← State.zone, zones]
  · exact zones ..

theorem formFields_cap (s : State) (z : Zone) : (formFields s z).cap = capacity (s.active z).allocation := rfl

theorem formFields_tgt (s : State) (z : Zone) : (formFields s z).tgt = (s.zone z).target.tgt := by
  unfold formFields
  dsimp only
  split <;> rfl

theorem settleTarget_cap (c : ComputationClass) (b : Bool) (n : Nat) (x : TargetState) :
    (settleTarget c b n x).1.cap = x.cap := by
  unfold settleTarget
  (repeat' split) <;> rfl

/-- The target of a zone lies within its capacity, and is 0 in one that is not enabled (R46 to R48). -/
structure ZoneState.Targeted (x : ZoneState) : Prop where
  cap : x.target.cap = capacity x.entry.active.allocation
  tgt : x.target.tgt ≤ x.target.cap
  off : x.entry.active.enabled = false → x.target.tgt = 0

/-- D_cur and the write position lie within the line, and are 0 in a zone that is not enabled (R63, R65, R71). -/
structure ZoneState.Lined (x : ZoneState) : Prop where
  cur : x.line.dCur ≤ capacity x.entry.active.allocation
  pos : x.line.writePos ≤ lineLength x.entry.active.allocation - 1
  off : x.entry.active.enabled = false → x.line.dCur = 0 ∧ x.line.writePos = 0

theorem candidate_le (r : Int) (n : Nat) : candidate r n ≤ n := (limitNat_bounds (Nat.zero_le n) r).2

/-- The target a computation leaves: within the capacity, and 0 where the zone is not enabled. -/
theorem settleTarget_bounds (c : ComputationClass) (b : Bool) (n : Nat) {x : TargetState}
    (h : c = .record ∨ x.tgt ≤ x.cap) :
    (settleTarget c b n x).1.tgt ≤ x.cap ∧ (b = false → (settleTarget c b n x).1.tgt = 0) := by
  unfold settleTarget
  split
  · next hb =>
    refine ⟨?_, fun k => absurd hb (by simp [k])⟩
    split
    · exact candidate_le ..
    · next hr =>
      refine h.resolve_left fun e => ?_
      subst e
      exact hr rfl
  · exact ⟨Nat.zero_le _, fun _ => rfl⟩

/-- A computation leaves its zone's target within the capacity: a record computation always, a temperature computation
where it was. -/
theorem computeOne_targeted (c : ComputationClass) (z y : Zone) (s : State)
    (h : (s.zone y).Targeted ∨ c = .record ∧ y = z) : ((computeOne c z s).zone y).Targeted := by
  rw [computeOne_zone]
  split
  · next e =>
    subst e
    have bounds := settleTarget_bounds c (s.active y).enabled s.settings.deadband (x := formFields s y)
      (h.symm.imp And.left fun k => by
        rw [formFields_tgt, formFields_cap, State.active, ← k.cap]
        exact k.tgt)
    exact ⟨settleTarget_cap .., (settleTarget_cap ..).symm ▸ bounds.1, bounds.2⟩
  · next e => exact h.resolve_right fun k => e k.2

theorem compute_targeted (c : ComputationClass) (b : Bool) (z y : Zone) (s : State)
    (h : (s.zone y).Targeted ∨ c = .record ∧ y = z) : ((compute c b z s).zone y).Targeted := by
  have one := computeOne_targeted c z y s h
  unfold compute
  dsimp only
  split
  · exact State.eachOf_keeps (P := fun u => (u.zone y).Targeted) _ _
      (fun x u k => computeOne_targeted .record x y u (.inl k)) _ one
  · exact one

theorem ZoneState.Targeted.congr {x y : ZoneState} (h : x.Targeted)
    (enabled : y.entry.active.enabled = x.entry.active.enabled)
    (allocation : y.entry.active.allocation = x.entry.active.allocation) (target : y.target = x.target) :
    y.Targeted :=
  ⟨by rw [target, allocation, h.cap], by rw [target]; exact h.tgt, by rw [enabled, target]; exact h.off⟩

theorem ZoneState.Lined.congr {x y : ZoneState} (h : x.Lined)
    (enabled : y.entry.active.enabled = x.entry.active.enabled)
    (allocation : y.entry.active.allocation = x.entry.active.allocation) (line : y.line = x.line) : y.Lined :=
  ⟨by rw [line, allocation]; exact h.cur, by rw [line, allocation]; exact h.pos, by rw [enabled, line]; exact h.off⟩

/-- A line at its start with D_cur at D_tgt (R57, R64, R75). -/
theorem ZoneState.Targeted.lined {x : ZoneState} (h : x.Targeted)
    (line : x.line = { dCur := x.target.tgt, writePos := 0 }) : x.Lined :=
  ⟨by rw [line, ← h.cap]; exact h.tgt, by rw [line]; exact Nat.zero_le _, fun off => by rw [line]; exact ⟨h.off off, rfl⟩⟩

theorem LineState.eq_zero {x : LineState} (h : x.dCur = 0 ∧ x.writePos = 0) : x = { dCur := 0, writePos := 0 } := by
  obtain ⟨cur, pos⟩ := x
  obtain ⟨rfl, rfl⟩ := h
  rfl

/-- The line of a DISABLED zone (R65). -/
theorem ZoneState.lined_zero {x : ZoneState} (line : x.line = { dCur := 0, writePos := 0 }) : x.Lined :=
  ⟨by rw [line]; exact Nat.zero_le _, by rw [line]; exact Nat.zero_le _, fun _ => by rw [line]; exact ⟨rfl, rfl⟩⟩

theorem Only.targeted (k : Only l s t) (entry : Part.entry ∉ l) (target : Part.target ∉ l) {z : Zone}
    (h : (s.zone z).Targeted) : (t.zone z).Targeted := by
  have e : (s.zone z).entry = (t.zone z).entry := k.same .entry entry z
  exact h.congr (by rw [e]) (by rw [e]) (k.same .target target z).symm

theorem Only.lined (k : Only l s t) (entry : Part.entry ∉ l) (line : Part.line ∉ l) {z : Zone}
    (h : (s.zone z).Lined) : (t.zone z).Lined := by
  have e : (s.zone z).entry = (t.zone z).entry := k.same .entry entry z
  exact h.congr (by rw [e]) (by rw [e]) (k.same .line line z).symm

/-! ### Lines -/

theorem clearLine_line (z y : Zone) (s : State) : ((clearLine z s).zone y).line =
    if y = z then { (s.zone y).line with writePos := 0 } else (s.zone y).line := by
  unfold clearLine
  dsimp only
  rw [updLine_line]
  split <;> split <;> rfl

theorem lineUp_line (z y : Zone) (s : State) : ((lineUp z s).zone y).line =
    if y = z then
      { dCur := (s.zone z).target.tgt
        writePos := if s.powerOf z = .parked then 0 else (s.zone z).line.writePos }
    else (s.zone y).line := by
  unfold lineUp
  dsimp only
  rw [(updLine_only ..).powerOf (by decide)]
  split
  · rw [clearLine_line, updLine_line]
    split <;> rfl
  · rw [updLine_line]
    split
    · next e => rw [e]
    · rfl

/-! ### The stages of start-up (R177) -/

/-- Start-up with the zones loaded and scene 0 over them. -/
def startLoaded (s : State) : State := (s.eachZone loadZone).eachZone applySceneZero

/-- Start-up with the power states set. -/
def startPowered (s : State) : State := (startLoaded s).eachZone comeUp

/-- Start-up with the targets computed. -/
def startComputed (s : State) : State := (startPowered s).eachZone (compute .record false)

/-- Start-up with the lines set. -/
def startLined (s : State) : State := (startComputed s).eachZone lineUp

theorem startLoaded_only (s : State) : Only [.entry] s (startLoaded s) :=
  (Only.eachZone _ loadZone_only s).trans (Only.eachZone _ applySceneZero_only _)

theorem startPowered_only (s : State) : Only [.power] (startLoaded s) (startPowered s) := Only.eachZone _ comeUp_only _

theorem startComputed_only (s : State) : Only [.target, .ports] (startPowered s) (startComputed s) :=
  Only.eachZone _ (compute_only .record false) _

theorem startLined_only (s : State) : Only [.line, .mem] (startComputed s) (startLined s) :=
  Only.eachZone _ lineUp_only _

theorem startUp_finish (s : State) : Only [.eq, .ports, .store, .temp] (startLined s) (startUp s) := by
  unfold startUp startRound
  dsimp only
  refine Only.trans ?_ ((roundOn_only ..).mono rfl)
  refine Only.trans ?_ ((loadTimer_only _).mono rfl)
  refine Only.trans ?_ ((updStore_only ..).mono rfl)
  refine Only.trans ?_ ((raiseAll_only ..).mono rfl)
  exact (Only.eachZone _ eqSetUp_only _).mono rfl

theorem comeUp_zone {y z : Zone} (s : State) (h : y ≠ z) : (comeUp z s).zone y = s.zone y := by
  simp only [comeUp]
  generalize (if (s.active z).enabled = true then PowerState.parked else PowerState.disabled) = p
  split
  · rfl
  · exact State.zone_updZone_other _ _ h

theorem comeUp_powerOf (z : Zone) (s : State) :
    (comeUp z s).powerOf z = if (s.active z).enabled then .parked else .disabled := by
  simp only [comeUp]
  generalize (if (s.active z).enabled = true then PowerState.parked else PowerState.disabled) = p
  split
  · assumption
  · rw [State.powerOf, updPower_power, if_pos rfl]

set_option Elab.async true in
/-- Every zone comes up PARKED where its record is enabled, and DISABLED otherwise (R143). -/
theorem startUp_powerOf (z : Zone) (s : State) :
    (startUp s).powerOf z = if ((startUp s).active z).enabled then .parked else .disabled := by
  have powered : (startPowered s).powerOf z =
      if ((startPowered s).active z).enabled then .parked else .disabled :=
    State.eachZone_all (P := fun u z => u.powerOf z = if (u.active z).enabled then .parked else .disabled)
      (fun y u => (comeUp_powerOf y u).trans
        (by rw [State.active, State.active, (comeUp_only y u).same .entry (by decide) y]))
      (fun y u x hx => by
        by_cases e : x = y
        · subst e
          rw [comeUp_powerOf, State.active, State.active, (comeUp_only x u).same .entry (by decide) x]
        · rw [State.powerOf, State.active, comeUp_zone u e]
          exact hx) (startLoaded s) z
  have rest := (((startComputed_only s).mono (m := Part.besides [.entry, .power]) rfl).trans
    ((startLined_only s).mono rfl)).trans ((startUp_finish s).mono rfl)
  rw [rest.powerOf (by decide), powered, State.active, State.active, rest.same .entry (by decide) z]

theorem startUp_targeted (z : Zone) (s : State) : ((startUp s).zone z).Targeted := by
  have computed : ((startComputed s).zone z).Targeted :=
    State.eachZone_all (P := fun u z => (u.zone z).Targeted)
      (fun y u => compute_targeted .record false y y u (.inr ⟨rfl, rfl⟩))
      (fun y u x hx => compute_targeted .record false y x u (.inl hx)) (startPowered s) z
  exact (startUp_finish s).targeted (by decide) (by decide)
    ((startLined_only s).targeted (by decide) (by decide) computed)

set_option Elab.async true in
/-- After start-up D_cur is D_tgt, and the line of a PARKED zone is at its start (R57, R75). -/
theorem startUp_line (z : Zone) (s : State) : ((startUp s).zone z).line =
    { dCur := ((startUp s).zone z).target.tgt
      writePos := if (startUp s).powerOf z = .parked then 0 else (s.zone z).line.writePos } := by
  have own := State.eachZone_own (fun s z => ((s.zone z).target, s.powerOf z, (s.zone z).line)) lineUp
    (fun _ x => (x.1, x.2.1, { dCur := x.1.tgt, writePos := if x.2.1 = .parked then 0 else x.2.2.writePos }))
    (fun z s => by
      rw [lineUp_line, if_pos rfl, (lineUp_only z s).powerOf (by decide), ← (lineUp_only z s).same .target (by decide) z])
    (fun z s y h => by
      rw [lineUp_line, if_neg h, (lineUp_only z s).powerOf (by decide), ← (lineUp_only z s).same .target (by decide) y])
    (startComputed s) z
  have finish := startUp_finish s
  have line : ((startLined s).zone z).line = ((startUp s).zone z).line := finish.same .line (by decide) z
  have target : ((startLined s).zone z).target = ((startUp s).zone z).target := finish.same .target (by decide) z
  have power : (startUp s).powerOf z = (startLined s).powerOf z := finish.powerOf (by decide) z
  have before : (s.zone z).line = ((startComputed s).zone z).line :=
    (((startLoaded_only s).mono (m := Part.besides [.line]) rfl).trans
      (((startPowered_only s).mono rfl).trans ((startComputed_only s).mono rfl))).same .line (by decide) z
  simp only [Prod.mk.injEq] at own
  obtain ⟨computed, state, lined⟩ := own
  rw [← line, ← target, power, before, startLined, lined, computed, state]

/-! ### Service (R12, R13) -/

/-- What ties the records of a zone to its power state (R12, R13). -/
structure ZoneState.Served (x : ZoneState) : Prop where
  active : x.entry.active.enabled = x.power.state.inService
  shadow : x.entry.shadow.enabled = x.power.state.inService
  both : x.entry.active.allocation = x.entry.shadow.allocation
  allocated : x.entry.active.enabled = true → x.entry.active.allocation ≠ none

theorem serviceInv_iff (s : State) : ServiceInv s ↔ ∀ z, (s.zone z).Served :=
  forall_congr' fun _ => ⟨fun ⟨a, b, c, d⟩ => ⟨a, b, c, d⟩, fun ⟨a, b, c, d⟩ => ⟨a, b, c, d⟩⟩

theorem ZoneState.Served.congr {x y : ZoneState} (h : x.Served)
    (active : y.entry.active.enabled = x.entry.active.enabled ∧ y.entry.active.allocation = x.entry.active.allocation)
    (shadow : y.entry.shadow.enabled = x.entry.shadow.enabled ∧ y.entry.shadow.allocation = x.entry.shadow.allocation)
    (power : y.power.state.inService = x.power.state.inService) : y.Served :=
  ⟨by rw [active.1, power, h.active], by rw [shadow.1, power, h.shadow], by rw [active.2, shadow.2, h.both],
    by rw [active.1, active.2]; exact h.allocated⟩

/-- A loaded record is enabled only with an allocation (R5). -/
theorem loadOf_allocated (s : State) (z : Zone) (h : (loadOf s z).1.enabled = true) :
    (loadOf s z).1.allocation ≠ none := by
  rcases loadOf_cases s z with e | ⟨r, -, -, e⟩
  · rw [e] at h; cases h
  · rw [e] at h ⊢
    intro none
    have enabled : (r.limited.enabled && (repaired s z r.limited).allocation.isSome) = true := h
    rw [none] at enabled
    simp at enabled

theorem startUp_served (z : Zone) (s : State) : ((startUp s).zone z).Served := by
  have copies := startUp_shadow z s
  rw [State.shadow, State.active] at copies
  have power : ((startUp s).zone z).entry.active.enabled = ((startUp s).zone z).power.state.inService := by
    have k := startUp_powerOf z s
    rw [State.powerOf, State.active] at k
    rw [k]
    cases ((startUp s).zone z).entry.active.enabled <;> rfl
  refine ⟨power, copies ▸ power, by rw [copies], ?_⟩
  have active := startUp_active z s
  rw [State.active] at active
  rw [active, sceneOver_enabled, sceneOver_allocation]
  exact loadOf_allocated (startUp s) z

theorem transferEntry_active (e : TableEntry) : (transferEntry e).active = e.active ∨ (transferEntry e).active = e.shadow := by
  unfold transferEntry
  split
  · exact .inr rfl
  · exact .inl rfl

theorem transferEntry_shadow (e : TableEntry) : (transferEntry e).shadow = e.shadow := by
  unfold transferEntry
  split <;> rfl

theorem initial_served : ZoneState.initial.Served := ⟨rfl, rfl, rfl, nofun⟩

theorem transferWork_served {z : Zone} (h : (s.zone z).Served) : ((transferWork s).zone z).Served := by
  have power := ((transferWork_only s).same .power (by decide) z).symm
  refine h.congr ?_ (by rw [transferWork_entry, transferEntry_shadow]; exact ⟨rfl, rfl⟩) (by rw [power])
  rw [transferWork_entry]
  rcases transferEntry_active (s.zone z).entry with e | e
  · rw [e]; exact ⟨rfl, rfl⟩
  · rw [e, h.active, h.both]; exact ⟨h.shadow, rfl⟩

theorem enableZone_served {y z : Zone} (h : (s.zone z).Served) (allocated : z = y → (s.active z).allocation ≠ none) :
    ((enableZone y s).zone z).Served := by
  have power : ((enableZone y s).zone z).power.state = if z = y then .parked else s.powerOf z := powerOf_enableZone y z s
  have entry := enableZone_entry z y s
  split at power
  · next e =>
    rw [if_pos e] at entry
    exact ⟨by rw [entry, power]; rfl, by rw [entry, power]; rfl, by rw [entry]; exact h.both,
      fun _ => by rw [entry]; exact allocated e⟩
  · next e =>
    rw [if_neg e] at entry
    exact h.congr (by rw [entry]; exact ⟨rfl, rfl⟩) (by rw [entry]; exact ⟨rfl, rfl⟩) (by rw [power]; rfl)

theorem disableZone_served {y z : Zone} (h : (s.zone z).Served) : ((disableZone y s).zone z).Served := by
  have power : ((disableZone y s).zone z).power.state = if z = y then .disabled else s.powerOf z :=
    powerOf_disableZone y z s
  have entry := disableZone_entry z y s
  split at power
  · next e =>
    rw [if_pos e] at entry
    exact ⟨by rw [entry, power]; rfl, by rw [entry, power]; rfl, by rw [entry]; exact h.both,
      fun k => by rw [entry] at k; cases k⟩
  · next e =>
    rw [if_neg e] at entry
    exact h.congr (by rw [entry]; exact ⟨rfl, rfl⟩) (by rw [entry]; exact ⟨rfl, rfl⟩) (by rw [power]; rfl)

theorem allocate_served {y z : Zone} {x : Option Allocation} (h : (s.zone z).Served)
    (disabled : z = y → s.powerOf z = .disabled) :
    ((directWrite y .allocation (fun r => { r with allocation := x }) s).zone z).Served := by
  have power := ((directWrite_only y .allocation (fun r => { r with allocation := x }) s).same .power (by decide) z).symm
  have entry := directWrite_entry z y .allocation (fun r => { r with allocation := x }) s
  split at entry
  · next e =>
    have off : (s.zone z).entry.active.enabled = false := by
      rw [h.active, inService_iff]
      exact disabled e
    exact ⟨by rw [entry, power]; exact h.active, by rw [entry, power]; exact h.shadow, by rw [entry]; rfl,
      fun x => by rw [entry, TableEntry.both] at x; exact absurd x (by simp [off])⟩
  · exact h.congr (by rw [entry]; exact ⟨rfl, rfl⟩) (by rw [entry]; exact ⟨rfl, rfl⟩) (by rw [power])

theorem completeHand_served {z : Zone} (h : (s.zone z).Served) : ((completeHand s).zone z).Served := by
  have power := ((completeHand_only s).same .power (by decide) z).symm
  rcases completeHand_entry s with e | ⟨hand, -, -, e⟩
  · exact h.congr (by rw [e]; exact ⟨rfl, rfl⟩) (by rw [e]; exact ⟨rfl, rfl⟩) (by rw [power])
  · have entry := (e z).trans (writeChange_entry ..)
    split at entry
    · exact h.congr (by rw [entry]; exact ⟨rfl, rfl⟩)
        (by rw [entry]; exact ⟨Change.write_enabled .., Change.write_allocation ..⟩) (by rw [power])
    · exact h.congr (by rw [entry]; exact ⟨rfl, rfl⟩) (by rw [entry]; exact ⟨rfl, rfl⟩) (by rw [power])

set_option Elab.async true in
theorem serviceInv_act (h : ServiceInv s) (a : Act s t) : ServiceInv t := by
  rw [serviceInv_iff] at h ⊢
  intro z
  have same : ∀ {l : List Part} {u : State}, Only l s u → Part.among l (Part.besides [.entry]) = true →
      (u.powerOf z).inService = (s.powerOf z).inService → (u.zone z).Served := fun k hl p => by
    have entry := k.besides hl (p := .entry) (by decide) z
    exact (h z).congr (by rw [entry]; exact ⟨rfl, rfl⟩) (by rw [entry]; exact ⟨rfl, rfl⟩) p
  have frame : ∀ {l : List Part} {u : State}, Only l s u → Part.among l (Part.besides [.entry, .power]) = true →
      (u.zone z).Served := fun k hl => by
    have entry := k.besides hl (p := .entry) (by decide) z
    have power := k.besides hl (p := .power) (by decide) z
    exact (h z).congr (by rw [entry]; exact ⟨rfl, rfl⟩) (by rw [entry]; exact ⟨rfl, rfl⟩) (by rw [power])
  cases a with
  | reset a =>
    cases a with
    | reset => simpa only [afterReset_zone] using initial_served
    | startUp => exact startUp_served z s
  | tick => exact same (tick_only s) rfl (tick_inService z s)
  | complete => exact completeHand_served (h z)
  | service a =>
    cases a with
    | @enable y _ disabled allocated => exact enableZone_served (h z) (fun e => e ▸ allocated)
    | @disable y => exact disableZone_served (h z)
  | record a =>
    cases a with
    | transfer => exact transferWork_served (h z)
    | @allocate y x may => exact allocate_served (h z) fun e => e ▸ may.disabled
    | compute => exact frame (computeOne_only ..) rfl
  | power a => exact same a.only rfl (a.inService z)
  | audio a | port a | unit a | set a | plain a => exact frame a.only rfl

/-! ### Notices -/

theorem targetNotice_targeted (z y : Zone) (g : List FieldGroup) (s : State)
    (h : (s.zone y).Targeted ∨ y = z ∧ (.enable ∈ g ∨ .allocation ∈ g)) : ((targetNotice z g s).zone y).Targeted := by
  unfold targetNotice
  split
  · exact compute_targeted .record true z y s (h.imp_right fun k => ⟨rfl, k.1⟩)
  · split
    · exact compute_targeted .record false z y s (h.imp_right fun k => ⟨rfl, k.1⟩)
    · next a b => exact h.resolve_right fun k => k.2.elim a fun c => b (.inr (.inr c))

theorem changeNotice_targeted (z y : Zone) (g : List FieldGroup) (r : ZoneRecord) (s : State)
    (h : (s.zone y).Targeted ∨ y = z ∧ (.enable ∈ g ∨ .allocation ∈ g)) : ((changeNotice z g r s).zone y).Targeted :=
  (eqNotice_only z g r _).targeted (by decide) (by decide) (targetNotice_targeted z y g s h)

/-- A direct write of the enabled field or the allocation leaves every target within its capacity (R12, R46 to R48). -/
theorem directWrite_targeted {g : FieldGroup} (hg : g = .enable ∨ g = .allocation) (z y : Zone)
    (f : ZoneRecord → ZoneRecord) (s : State) (h : (s.zone y).Targeted) : ((directWrite z g f s).zone y).Targeted := by
  refine changeNotice_targeted z y [g] (s.active z) _ ?_
  by_cases e : y = z
  · exact .inr ⟨e, hg.imp (fun k => by simp [k]) fun k => by simp [k]⟩
  · refine .inl ?_
    rw [writeBoth, State.updEntry, State.zone_updZone_other _ _ e]
    exact h

/-- What a transfer copies, before its notices. -/
theorem copied_zone (z : Zone) (s : State) : (s.eachZone fun z s => s.updEntry z transferEntry).zone z =
    { s.zone z with entry := transferEntry (s.zone z).entry } :=
  State.eachZone_own State.zone (fun z s => s.updEntry z transferEntry) (fun _ x => { x with entry := transferEntry x.entry })
    (fun z s => by rw [State.updEntry, State.zone_updZone_same])
    (fun z s y h => by rw [State.updEntry, State.zone_updZone_other _ _ h]) s z

/-- A transfer changes neither the enabled field nor the allocation (R12). -/
theorem transferEntry_keeps {x : ZoneState} (h : x.Served) :
    (transferEntry x.entry).active.enabled = x.entry.active.enabled ∧
      (transferEntry x.entry).active.allocation = x.entry.active.allocation := by
  rcases transferEntry_active x.entry with e | e
  · rw [e]; exact ⟨rfl, rfl⟩
  · rw [e, h.active, h.both]; exact ⟨h.shadow, rfl⟩

theorem transferWork_targeted {z : Zone} (served : (s.zone z).Served) (h : (s.zone z).Targeted) :
    ((transferWork s).zone z).Targeted := by
  obtain ⟨enabled, allocation⟩ := transferEntry_keeps served
  refine State.eachZone_keeps (P := fun u => (u.zone z).Targeted) _ (fun y u hu => ?_) _ ?_
  · unfold transferNotice
    split
    · exact changeNotice_targeted y z _ _ u (.inl hu)
    · exact hu
  · rw [copied_zone]
    exact h.congr enabled allocation rfl

/-! ### Frame marks and sample periods (R63, R68) -/

theorem slewStep_le {p : PowerState} {cur tgt cap : Nat} (slew : Nat) (hc : cur ≤ cap) (ht : tgt ≤ cap) :
    slewStep p cur tgt slew ≤ cap := by
  unfold slewStep slewToward
  (repeat' split) <;> omega

theorem slewZone_lined {z y : Zone} (served : (s.zone y).Served) (target : (s.zone y).Targeted)
    (h : (s.zone y).Lined) : ((slewZone z s).zone y).Lined := by
  have entry : (s.zone y).entry = ((slewZone z s).zone y).entry := (slewZone_only z s).same .entry (by decide) y
  have line : ((slewZone z s).zone y).line = if y = z then { (s.zone y).line with
      dCur := slewStep (s.powerOf z) (s.zone y).line.dCur (s.zone z).target.tgt (s.active z).slew } else (s.zone y).line :=
    updLine_line ..
  split at line
  · next e =>
    subst e
    refine ⟨?_, ?_, fun k => ?_⟩
    · rw [line, ← entry]
      exact slewStep_le _ h.cur (target.cap ▸ target.tgt)
    · rw [line, ← entry]
      exact h.pos
    · rw [← entry] at k
      have off : s.powerOf y = .disabled := inService_iff.mp (served.active.symm.trans k)
      rw [line, off]
      exact ⟨rfl, (h.off k).2⟩
  · exact h.congr (by rw [entry]) (by rw [entry]) line

theorem nextPos_le (w n : Nat) : nextPos w n ≤ n - 1 := by
  unfold nextPos
  split <;> omega

theorem sampleZone_line (x : Vector Sample 8) (p : Sample) (k : Nat) (z y : Zone) (s : State) :
    ((sampleZone x p k z s).zone y).line = if y = z ∧ (s.powerOf z).inService = true then
      { (s.zone y).line with writePos := nextPos (s.zone y).line.writePos (lineLength (s.active y).allocation) }
    else (s.zone y).line := by
  unfold sampleZone
  split
  · next hs =>
    have fed : Only [.route, .eq, .gain, .ports] s (feedZone x p z s).1 := feedZone_only x p z s
    generalize feedZone x p z s = u at fed
    have scaled := scaleZone_only z k (delayZone z u.2 u.1).2 (delayZone z u.2 u.1).1
    have line : ((delayZone z u.2 u.1).1.zone y).line = if y = z then
        { (u.1.zone y).line with writePos := nextPos (u.1.zone y).line.writePos (lineLength (u.1.active y).allocation) }
        else (u.1.zone y).line := by
      unfold delayZone
      dsimp only
      rw [updLine_line]
      split
      · next e => subst e; rfl
      · rfl
    rw [← scaled.same .line (by decide) y, line, State.active, ← fed.same .line (by decide) y,
      ← fed.same .entry (by decide) y]
    exact if_congr (and_iff_left hs).symm rfl rfl
  · next hs => rw [if_neg fun k => hs k.2]; rfl

theorem sampleZone_lined {x : Vector Sample 8} {p : Sample} {k : Nat} {z y : Zone} (served : (s.zone y).Served)
    (h : (s.zone y).Lined) : ((sampleZone x p k z s).zone y).Lined := by
  have entry : (s.zone y).entry = _ := (sampleZone_only x p k z s).same .entry (by decide) y
  have line := sampleZone_line x p k z y s
  split at line
  · next e =>
    refine ⟨?_, ?_, fun off => ?_⟩
    · rw [line, ← entry]; exact h.cur
    · rw [line, ← entry]; exact nextPos_le ..
    · rw [← entry] at off
      have on : (s.zone y).entry.active.enabled = true := by
        rw [served.active, e.1]
        exact e.2
      rw [on] at off
      cases off
  · exact h.congr (by rw [entry]) (by rw [entry]) line

/-! ### Enabling, disabling and allocating (R12, R61, R65, R131, R132) -/

/-- The rest of an ENABLE_ZONE after its direct write. -/
theorem enableZone_rest (z : Zone) (s : State) : Only [.line, .mem, .eq, .route, .power, .gain, .eqWait]
    (directWrite z .enable (fun r => { r with enabled := true }) s) (enableZone z s) := by
  unfold enableZone
  dsimp only
  refine Only.trans ?_ ((setPower_only ..).mono rfl)
  refine Only.trans ?_ ((updRoute_only ..).mono rfl)
  refine Only.trans ?_ ((eqSetUp_only ..).mono rfl)
  refine Only.trans ?_ ((updLine_only ..).mono rfl)
  exact (clearLine_only ..).mono rfl

/-- A zone taken into service has its line at its start and D_cur at D_tgt (R64, R131). -/
theorem enableZone_line (z y : Zone) (s : State) : ((enableZone z s).zone y).line =
    if y = z then { dCur := ((enableZone z s).zone z).target.tgt, writePos := 0 } else (s.zone y).line := by
  have target := (enableZone_rest z s).same .target (by decide) z
  have before : (s.zone y).line = _ :=
    (directWrite_only z .enable (fun r => { r with enabled := true }) s).same .line (by decide) y
  rw [← target, before]
  unfold enableZone
  dsimp only
  rw [← (setPower_only ..).same .line (by decide) y, ← (updRoute_only ..).same .line (by decide) y,
    ← (eqSetUp_only ..).same .line (by decide) y, updLine_line, clearLine_line,
    ← (clearLine_only ..).same .target (by decide) z]
  split <;> rfl

/-- What a DISABLE_ZONE does before its direct write (R132). -/
def disableStopped (z : Zone) (s : State) : State :=
  let removed := (s.zone z).route.entries
  let s := s.updRoute z fun r => { r with entries := [], fade := .atRest none }
  let s := if removed.any RouteEntry.isProbe then probeRemoved z .zoneDisabled s else s
  setPower z .disabled s

theorem disableStopped_only (z : Zone) (s : State) :
    Only [.route, .probe, .ports, .power, .gain, .eq, .eqWait] s (disableStopped z s) := by
  have emptied := (updRoute_only s z fun r => { r with entries := [], fade := .atRest none }).mono
    (m := [.route, .probe, .ports, .power, .gain, .eq, .eqWait]) rfl
  have cancelled := Only.ite ((s.zone z).route.entries.any RouteEntry.isProbe = true)
    (emptied.trans ((probeRemoved_only z .zoneDisabled _).mono rfl)) emptied
  exact cancelled.trans ((setPower_only z .disabled _).mono rfl)

theorem disableZone_rest (z : Zone) (s : State) : Only [.line, .ports]
    (directWrite z .enable (fun r => { r with enabled := false }) (disableStopped z s)) (disableZone z s) :=
  ((updLine_only _ z fun _ => { dCur := 0, writePos := 0 }).mono rfl).trans
    (((raiseLost_only ..).mono rfl).trans ((raiseLost_only ..).mono rfl))

theorem disableZone_line (z y : Zone) (s : State) : ((disableZone z s).zone y).line =
    if y = z then { dCur := 0, writePos := 0 } else (s.zone y).line := by
  have before : (s.zone y).line = _ := (((disableStopped_only z s).mono (m := Part.besides [.line]) rfl).trans
    ((directWrite_only z .enable (fun r => { r with enabled := false }) _).mono rfl)).same .line (by decide) y
  unfold disableZone
  dsimp only
  rw [← (raiseLost_only ..).same .line (by decide) y, ← (raiseLost_only ..).same .line (by decide) y, updLine_line, before]
  rfl

/-! ### The invariant -/

/-- The delays by their parts: the targets, and the lines. -/
theorem delayInv_iff (s : State) : DelayInv s ↔
    ServiceInv s ∧ (∀ z, (s.zone z).Targeted ∧ (s.zone z).Lined) ∧ Dormant s := by
  refine and_congr_right fun service => and_congr_left fun _ => forall_congr' fun z => ?_
  have off : (s.zone z).entry.active.enabled = false ↔ s.powerOf z = .disabled := by
    rw [((serviceInv_iff s).mp service z).active, inService_iff]
    rfl
  constructor
  · rintro ⟨cap, tgt, cur, pos, zero⟩
    exact ⟨⟨cap, tgt, fun k => (zero (off.mp k)).1⟩, ⟨cap ▸ cur, pos, fun k => (zero (off.mp k)).2⟩⟩
  · rintro ⟨target, line⟩
    exact ⟨target.cap, target.tgt, target.cap ▸ line.cur, line.pos,
      fun k => ⟨target.off (off.mpr k), line.off (off.mpr k)⟩⟩

theorem initial_targeted : ZoneState.initial.Targeted := ⟨rfl, Nat.le_refl 0, fun _ => rfl⟩

theorem initial_lined : ZoneState.initial.Lined := ⟨Nat.le_refl 0, Nat.zero_le _, fun _ => ⟨rfl, rfl⟩⟩

theorem startUp_delays {z : Zone} (zero : (s.zone z).line.writePos = 0) :
    ((startUp s).zone z).Targeted ∧ ((startUp s).zone z).Lined := by
  have computed := startUp_targeted z s
  have lined := startUp_line z s
  rw [zero, ite_self] at lined
  exact ⟨computed, computed.lined lined⟩

theorem completeHand_delays {z : Zone} (target : (s.zone z).Targeted) (line : (s.zone z).Lined) :
    ((completeHand s).zone z).Targeted ∧ ((completeHand s).zone z).Lined := by
  have k := completeHand_only s
  have active : ((completeHand s).zone z).entry.active = (s.zone z).entry.active := by
    rcases completeHand_entry s with e | ⟨hand, -, -, e⟩
    · rw [e]
    · rw [e, writeChange_entry]
      split <;> rfl
  exact ⟨target.congr (by rw [active]) (by rw [active]) (k.same .target (by decide) z).symm,
    line.congr (by rw [active]) (by rw [active]) (k.same .line (by decide) z).symm⟩

theorem transferWork_delays {z : Zone} (served : (s.zone z).Served) (target : (s.zone z).Targeted)
    (line : (s.zone z).Lined) : ((transferWork s).zone z).Targeted ∧ ((transferWork s).zone z).Lined := by
  obtain ⟨enabled, allocation⟩ := transferEntry_keeps served
  exact ⟨transferWork_targeted served target, line.congr (by rw [transferWork_entry]; exact enabled)
    (by rw [transferWork_entry]; exact allocation) ((transferWork_only s).same .line (by decide) z).symm⟩

theorem enableZone_delays {y z : Zone} (target : (s.zone z).Targeted) (line : (s.zone z).Lined) :
    ((enableZone y s).zone z).Targeted ∧ ((enableZone y s).zone z).Lined := by
  have computed := (enableZone_rest y s).targeted (z := z) (by decide) (by decide)
    (directWrite_targeted (.inl rfl) y z _ s target)
  have lined := enableZone_line y z s
  have entry := enableZone_entry z y s
  refine ⟨computed, ?_⟩
  split at lined
  · next e =>
    subst e
    exact computed.lined lined
  · next e =>
    rw [if_neg e] at entry
    exact line.congr (by rw [entry]) (by rw [entry]) lined

theorem disableZone_delays {y z : Zone} (target : (s.zone z).Targeted) (line : (s.zone z).Lined) :
    ((disableZone y s).zone z).Targeted ∧ ((disableZone y s).zone z).Lined := by
  have computed := (disableZone_rest y s).targeted (z := z) (by decide) (by decide)
    (directWrite_targeted (.inl rfl) y z _ _ ((disableStopped_only y s).targeted (by decide) (by decide) target))
  have lined := disableZone_line y z s
  have entry := disableZone_entry z y s
  refine ⟨computed, ?_⟩
  split at lined
  · exact ZoneState.lined_zero lined
  · next e =>
    rw [if_neg e] at entry
    exact line.congr (by rw [entry]) (by rw [entry]) lined

theorem allocate_delays {y z : Zone} {x : Option Allocation} (target : (s.zone z).Targeted) (line : (s.zone z).Lined)
    (off : z = y → (s.zone z).line.dCur = 0 ∧ (s.zone z).line.writePos = 0) :
    ((directWrite y .allocation (fun r => { r with allocation := x }) s).zone z).Targeted ∧
      ((directWrite y .allocation (fun r => { r with allocation := x }) s).zone z).Lined := by
  have lines := (directWrite_only y .allocation (fun r => { r with allocation := x }) s).same .line (by decide) z
  have entry := directWrite_entry z y .allocation (fun r => { r with allocation := x }) s
  refine ⟨directWrite_targeted (.inr rfl) y z _ s target, ?_⟩
  split at entry
  · next e => exact ZoneState.lined_zero (lines.symm.trans (LineState.eq_zero (off e)))
  · exact line.congr (by rw [entry]) (by rw [entry]) lines.symm

set_option Elab.async true in
theorem delays_act (h : DelayInv s) (a : Act s t) (z : Zone) : (t.zone z).Targeted ∧ (t.zone z).Lined := by
  obtain ⟨service, delays, dormant⟩ := (delayInv_iff s).mp h
  obtain ⟨target, line⟩ := delays z
  have served := (serviceInv_iff s).mp service
  have frame : ∀ {l : List Part} {u : State}, Only l s u →
      Part.among l (Part.besides [.entry, .target, .line]) = true → (u.zone z).Targeted ∧ (u.zone z).Lined :=
    fun k hl => by
      have entry := k.besides hl (p := .entry) (by decide) z
      exact ⟨target.congr (by rw [entry]) (by rw [entry]) (k.besides hl (p := .target) (by decide) z).symm,
        line.congr (by rw [entry]) (by rw [entry]) (k.besides hl (p := .line) (by decide) z).symm⟩
  cases a with
  | reset a =>
    cases a with
    | reset => simpa only [afterReset_zone] using ⟨initial_targeted, initial_lined⟩
    | startUp starting => exact startUp_delays (line.off ((served z).active.trans (inService_iff.mpr (dormant starting z)))).2
  | tick => exact frame (tick_only s) rfl
  | complete => exact completeHand_delays target line
  | service a =>
    cases a with
    | enable => exact enableZone_delays target line
    | disable => exact disableZone_delays target line
  | record a =>
    cases a with
    | transfer => exact transferWork_delays (served z) target line
    | allocate may =>
      exact allocate_delays target line fun e =>
        line.off ((served z).active.trans (inService_iff.mpr (by rw [← State.powerOf, e]; exact may.disabled)))
    | compute c y =>
      exact ⟨computeOne_targeted c y z s (.inl target), (computeOne_only c y s).lined (by decide) (by decide) line⟩
  | audio a =>
    cases a with
    | slew y => exact ⟨(slewZone_only y s).targeted (by decide) (by decide) target, slewZone_lined (served z) target line⟩
    | gain => exact frame (gainZone_only ..) rfl
    | sample x p k y =>
      exact ⟨(sampleZone_only x p k y s).targeted (by decide) (by decide) target, sampleZone_lined (served z) line⟩
    | clip => exact frame (updGain_only ..) rfl
  | power a | port a | unit a | set a | plain a => exact frame a.only rfl

theorem delayInv_act (h : DelayInv s) (a : Act s t) : DelayInv t :=
  (delayInv_iff t).mpr ⟨serviceInv_act h.1 a, delays_act h a, dormant_act h.2.2 a⟩

/-- Settles O7: every computation forms the target within the capacity, every step of a line stays within it, and the
acts that take a zone out of service leave its delays at 0. -/
theorem delaysKept : Obligations.DelaysKept := kept_of_acts delayInv_act

end Sys2Proof.Machine
end

section
/-! PROOFS. The ranges of records, changes, contents and settings (R2, R3, R5, R175, R191): what every write keeps in
range, what start-up makes of stored contents, and what the change queue holds. -/

namespace Sys2Proof.Machine

-- One theorem at a time, and a long one, marked, on a thread of its own: the compile has 22 GiB. The two linters do
-- not see into such a proof.
set_option Elab.async false
set_option linter.unusedTactic false
set_option linter.unreachableTactic false

variable {s t : State} {l : List Part}

/-! ### Records and changes -/

theorem ZoneRecord.within_iff (r : ZoneRecord) : r.within = true ↔
    r.allocation.all Allocation.within = true ∧ r.geometry.within = true ∧ r.coupling.all Coupling.within = true ∧
      r.timing.within = true ∧ gainWithin r.gain = true ∧ gainWithin r.evacGain = true := by
  simp only [ZoneRecord.within, Bool.and_eq_true, and_assoc]

theorem default_within : ZoneRecord.default.within = true := by decide

theorem Scene.gain_within {x : Scene} (h : Scene.within x = true) (z : Zone) : gainWithin x[z].gain = true :=
  List.all_eq_true.mp h _ (by simp)

/-- A change in range writes a record in range (R21). -/
theorem Change.write_within {c : Change} {r : ZoneRecord} (z : Zone) (hc : c.within = true) (hr : r.within = true) :
    (c.write z r).within = true := by
  rw [ZoneRecord.within_iff] at hr ⊢
  obtain ⟨allocation, geometry, coupling, timing, gain, evac⟩ := hr
  cases c with
  | gain => exact ⟨allocation, geometry, coupling, timing, hc, evac⟩
  | eqSelect => exact ⟨allocation, geometry, coupling, timing, gain, evac⟩
  | eqBank => exact ⟨allocation, geometry, coupling, timing, gain, evac⟩
  | geometry => exact ⟨allocation, hc, coupling, timing, gain, evac⟩
  | coupling => exact ⟨allocation, geometry, hc, timing, gain, evac⟩
  | timing => exact ⟨allocation, geometry, coupling, hc, gain, evac⟩
  | evacGain => exact ⟨allocation, geometry, coupling, timing, gain, hc⟩
  | scene x => exact ⟨allocation, geometry, coupling, timing, Scene.gain_within hc z, evac⟩

/-! ### What start-up makes of stored contents (R5, R175, R176) -/

set_option Elab.async true in
/-- A loaded record whose stored base page and page count are structural is in range. -/
theorem repaired_within {z : Zone} {r : ZoneRecord} (h : (Contents.zone r).within = true) :
    (repaired s z r.limited).within = true := by
  rw [ZoneRecord.within_iff]
  refine ⟨?_, ?_, ?_, ?_, limit_inRange (by decide) _, limit_inRange (by decide) _⟩
  · rw [Option.all_eq_true]
    intro a ha
    obtain ⟨stored, memory, -⟩ := repaired_allocation ha
    have k : r.allocation = some a := stored
    simp only [Contents.within, k, Option.all_some, decide_eq_true_eq] at h
    exact decide_eq_true ⟨h.1, h.2.1, h.2.2, of_decide_eq_true memory⟩
  · simp only [ZoneRecord.geometry, repaired, ZoneRecord.limited, Geometry.within, Bool.and_eq_true]
    refine ⟨⟨⟨limit_inRange (by decide) _, limit_inRange (by decide) _⟩, limit_inRange (by decide) _⟩, ?_⟩
    simpa [Vector.mem_toList_iff, Vector.mem_ofFn] using fun i _ => (limitNat_bounds (by decide : 0 ≤ 15) _).2
  · rw [Option.all_eq_true]
    intro k hk
    have dropped : (if couplingDropped s z r.limited then none else r.limited.coupling) = some k := hk
    split at dropped
    · cases dropped
    · obtain ⟨x, -, rfl⟩ := Option.map_eq_some_iff.mp dropped
      exact limit_inRange (by decide) _
  · have a := limitNat_bounds (by decide : 1 ≤ 64) r.slew
    have b := limitNat_bounds (by decide : 0 ≤ 255) r.fadeLength
    have c := limitNat_bounds (by decide : 0 ≤ 1000) r.wakeTime
    have d := limitNat_bounds (by decide : 0 ≤ 60000) r.parkHang
    exact decide_eq_true ⟨a.1, a.2, b.2, c.2, d.2⟩

theorem loadOf_within {z : Zone} (h : ∀ n, (s.sector n).contents.within = true) : (loadOf s z).1.within = true := by
  rcases loadOf_cases s z with e | ⟨r, -, contents, e⟩
  · rw [e]; exact default_within
  · rw [e]
    exact repaired_within (contents ▸ h (zoneSector z))

theorem sceneOver_within {v : Vector Sector 41} {z : Zone} {r : ZoneRecord}
    (h : ∀ n : SectorNo, v[n].contents.within = true) (hr : r.within = true) : (sceneOver v z r).within = true := by
  unfold sceneOver
  split
  · next x _ e =>
    have scene := h (sceneSector 0)
    rw [e] at scene
    exact Change.write_within z scene hr
  · exact hr

set_option Elab.async true in
theorem loadedSettings_within (x : Settings) : (loadedSettings x).within = true := by
  have b := limitNat_bounds (by decide : 0 ≤ 64) x.deadband
  have c := limitNat_bounds (by decide : 1 ≤ 15) x.bypassMax
  have d := limitNat_bounds (by decide : 1 ≤ 8) x.wakeMax
  have e := limitNat_bounds (by decide : 1 ≤ 100) x.wakeWindow
  have f := limitNat_bounds (by decide : 1 ≤ 60) x.pollInterval
  have g := limitNat_bounds (by decide : 5 ≤ 600) x.staleLimit
  have i := limitNat_bounds (by decide : 8 ≤ 160) x.spikeLimit
  simp only [Settings.within, Bool.and_eq_true, decide_eq_true_eq]
  refine ⟨⟨⟨⟨⟨⟨⟨⟨limit_inRange (by decide) _, b.2⟩, c⟩, d⟩, e⟩, f⟩, g⟩, i⟩, ?_⟩
  simpa [loadedSettings, Vector.mem_toList_iff, Vector.mem_ofFn] using
    fun i _ => limitNat_bounds (by decide : 0x08 ≤ 0x77) _

theorem settingsFrom_within (v : Vector Sector 41) : (settingsFrom v).within = true := by
  have default : Settings.default.within = true := by decide
  unfold settingsFrom
  split
  · split
    · exact loadedSettings_within _
    all_goals exact default
  · exact default

theorem scan_contents (v : Vector Sector 41) (n : SectorNo) : (scan v)[n].contents = v[n].contents := by
  simp [scan]

theorem scan_eraseCount (v : Vector Sector 41) (n : SectorNo) : (scan v)[n].eraseCount = v[n].eraseCount := by
  simp [scan]

/-! ### What the change queue holds (R18) -/

/-- Every entry, waiting or in hand, names its zone and its change as P has it. -/
def ChangeQueue.Holds (P : ZoneTarget → Change → Prop) (q : ChangeQueue) : Prop :=
  (∀ e ∈ q.entries, P e.zone e.change) ∧ ∀ h, q.hand = some h → P h.entry.zone h.entry.change

variable {P : ZoneTarget → Change → Prop}

/-- The queue of a reset. -/
theorem ChangeQueue.holds_empty : ({ entries := [], hand := none } : ChangeQueue).Holds P := by simp [ChangeQueue.Holds]

theorem takeNext_holds (h : s.queue.Holds P) : (takeNext s).queue.Holds P := by
  obtain ⟨entries, hand⟩ := h
  rcases takeNext_cases s with e | ⟨i, hi, -, -, e⟩
  · rw [e]; exact ⟨entries, hand⟩
  · rw [e]
    refine ⟨fun x hx => ?_, fun x hx => ?_⟩
    · simp only [takenQueue, List.mem_append, List.mem_map] at hx
      rcases hx with ⟨y, hy, rfl⟩ | hx
      · exact entries y (List.mem_of_mem_take hy)
      · exact entries x (List.mem_of_mem_drop hx)
    · cases hx
      exact entries _ (List.getElem_mem hi)

theorem offer_holds {e : QueueEntry} (new : P e.zone e.change) (h : s.queue.Holds P) : (offer e s).queue.Holds P := by
  obtain ⟨entries, hand⟩ := h
  rcases offer_cases e s with k | ⟨k, -, -⟩ | k
  · rw [k]
    refine ⟨fun x hx => ?_, hand⟩
    obtain ⟨y, hy, rfl⟩ := List.mem_map.mp hx
    split
    · next same =>
      obtain ⟨-, zone, -, -⟩ := QueueEntry.sameKey_iff.mp same
      exact zone ▸ new
    · exact entries y hy
  · rw [k]
    refine takeNext_holds ⟨fun x hx => ?_, hand⟩
    rcases List.mem_append.mp hx with hx | hx
    · exact entries x hx
    · rw [List.mem_singleton.mp hx]
      exact new
  · rw [k]; exact ⟨entries, hand⟩

theorem completeHand_holds (h : s.queue.Holds P) : (completeHand s).queue.Holds P := by
  unfold completeHand
  split
  · next x _ =>
    have landed : s.queue = (landChange x.entry s).queue := (landChange_only x.entry s).same .queue (by decide)
    have emptied : ({ landChange x.entry s with queue := { (landChange x.entry s).queue with hand := none } } :
        State).queue.Holds P := ⟨landed ▸ h.1, fun _ e => nomatch e⟩
    have raised := (raiseDrained_only x.entry
      { landChange x.entry s with queue := { (landChange x.entry s).queue with hand := none } }).same .queue (by decide)
    exact takeNext_holds (raised ▸ emptied)
  · exact h

theorem tick_queue (s : State) : (tick s).queue = { s.queue with hand := s.queue.hand.map InHand.tick } := by
  have queue : s.queue = (s.eachZone fun z s => s.updPower z PowerUnit.tick).queue :=
    (Only.eachZone (l := [.power]) _ (fun z s => updPower_only s z PowerUnit.tick) s).same .queue (by decide)
  rw [queue]
  rfl

theorem InHand.tick_entry (x : InHand) : x.tick.entry = x.entry := by
  unfold InHand.tick
  split <;> rfl

theorem tick_holds (h : s.queue.Holds P) : (tick s).queue.Holds P := by
  rw [tick_queue]
  refine ⟨h.1, fun x hx => ?_⟩
  obtain ⟨y, hy, rfl⟩ := Option.map_eq_some_iff.mp hx
  rw [InHand.tick_entry]
  exact h.2 y hy

set_option Elab.async true in
/-- What the queue holds is what it held, or what is offered to it. -/
theorem holds_act (h : s.queue.Holds P) (a : Act s t) (new : ∀ e, Offered s e → P e.zone e.change) :
    t.queue.Holds P := by
  have frame : ∀ {l : List Part} {u : State}, Only l s u → Part.among l (Part.besides [.queue]) = true →
      u.queue.Holds P := fun k hl => k.besides hl (p := .queue) (by decide) ▸ h
  cases a with
  | reset a =>
    cases a with
    | reset => exact ChangeQueue.holds_empty
    | startUp => exact frame (startUp_only s) rfl
  | tick => exact tick_holds h
  | complete => exact completeHand_holds h
  | set a =>
    cases a with
    | offer sound => exact offer_holds (new _ sound) h
    | settings =>
      refine ⟨fun x hx => ?_, h.2⟩
      obtain ⟨y, hy, rfl⟩ := List.mem_map.mp hx
      exact h.1 y hy
    | sensorFields => exact h
    | sensor => exact frame (updSensor_only ..) rfl
    | round => exact frame (setRound_only ..) rfl
    | timer => exact frame (loadTimer_only s) rfl
  | service a | record a | power a | audio a | port a | unit a | plain a => exact frame a.only rfl

/-! ### The invariant -/

/-- Every record in range, in both copies. -/
def RecordsWithin (s : State) : Prop := ∀ z, (s.active z).within = true ∧ (s.shadow z).within = true

/-- The ranges by their parts. -/
theorem rangeInv_iff (s : State) : RangeInv s ↔
    RecordsWithin s ∧ s.queue.Holds (fun _ c => c.within = true) ∧ s.store.Ranged ∧ s.settings.within = true :=
  ⟨fun ⟨a, b, c, d, e, f⟩ => ⟨a, ⟨b, c⟩, ⟨d, e⟩, f⟩, fun ⟨a, ⟨b, c⟩, ⟨d, e⟩, f⟩ => ⟨a, b, c, d, e, f⟩⟩

/-- Both copies of an entry in range. -/
def TableEntry.Within (e : TableEntry) : Prop := e.active.within = true ∧ e.shadow.within = true

theorem TableEntry.Within.both {e : TableEntry} (h : e.Within) {f : ZoneRecord → ZoneRecord}
    (hf : ∀ r : ZoneRecord, r.within = true → (f r).within = true) : (e.both f).Within := ⟨hf _ h.1, hf _ h.2⟩

theorem TableEntry.Within.loaded {x : ZoneRecord × LoadStatus} (h : x.1.within = true) (e : TableEntry) :
    (e.loaded x).Within := ⟨h, h⟩

theorem transferEntry_within {e : TableEntry} (h : e.Within) : (transferEntry e).Within := by
  unfold transferEntry
  split
  · exact ⟨h.2, h.2⟩
  · exact h

theorem enabled_within (b : Bool) (r : ZoneRecord) (h : r.within = true) : { r with enabled := b }.within = true := h

theorem allocation_within_of {a : Option Allocation} (ha : a.all Allocation.within = true) (r : ZoneRecord)
    (h : r.within = true) : { r with allocation := a }.within = true := by
  rw [ZoneRecord.within_iff] at h ⊢
  exact ⟨ha, h.2⟩

theorem recordsWithin_iff (s : State) : RecordsWithin s ↔ ∀ z, (s.zone z).entry.Within := Iff.rfl

/-- One zone's entry changed. -/
theorem records_entry (h : RecordsWithin s) {z : Zone} {f : TableEntry → TableEntry}
    (entry : ∀ y, (t.zone y).entry = if y = z then f (s.zone y).entry else (s.zone y).entry)
    (hf : ∀ e : TableEntry, e.Within → (f e).Within) : RecordsWithin t := fun y => by
  show TableEntry.Within _
  rw [entry]
  split
  · exact hf _ (h y)
  · exact h y

theorem startUp_records (store : ∀ n : SectorNo, s.store.sectors[n].contents.within = true) :
    RecordsWithin (startUp s) := by
  refine (recordsWithin_iff _).mpr fun z => ?_
  have stored : ∀ n, ((startUp s).sector n).contents.within = true := fun n => by
    rw [State.sector, startUp_store]
    exact store n
  rw [startUp_entry]
  exact (TableEntry.Within.loaded (loadOf_within stored) _).both fun r hr => sceneOver_within store hr

theorem completeHand_records (records : RecordsWithin s)
    (queue : ∀ hand, s.queue.hand = some hand → hand.entry.change.within = true) : RecordsWithin (completeHand s) := by
  refine (recordsWithin_iff _).mpr fun z => ?_
  rcases completeHand_entry s with e | ⟨hand, hh, -, e⟩
  · rw [e]; exact records z
  · rw [e, writeChange_entry]
    split
    · exact ⟨(records z).1, Change.write_within z (queue hand hh) (records z).2⟩
    · exact records z

set_option Elab.async true in
theorem records_act (h : RangeInv s) (a : Act s t) : RecordsWithin t := by
  obtain ⟨records, queue, store, -⟩ := (rangeInv_iff s).mp h
  have frame : ∀ {l : List Part} {u : State}, Only l s u → Part.among l (Part.besides [.entry]) = true →
      RecordsWithin u := fun k hl => (recordsWithin_iff _).mpr fun z =>
    k.besides hl (p := .entry) (by decide) z ▸ (recordsWithin_iff s).mp records z
  cases a with
  | reset a =>
    cases a with
    | reset =>
      refine (recordsWithin_iff _).mpr fun z => ?_
      have initial : ZoneState.initial.entry.Within := ⟨default_within, default_within⟩
      simpa only [afterReset_zone] using initial
    | startUp => exact startUp_records store.1
  | tick => exact frame (tick_only s) rfl
  | complete => exact completeHand_records records queue.2
  | service a =>
    cases a with
    | enable => exact records_entry records (fun y => enableZone_entry y _ s) fun _ k => k.both (enabled_within true)
    | disable => exact records_entry records (fun y => disableZone_entry y _ s) fun _ k => k.both (enabled_within false)
  | record a =>
    cases a with
    | transfer => exact (recordsWithin_iff _).mpr fun z => transferWork_entry z s ▸ transferEntry_within (records z)
    | allocate may =>
      exact records_entry records (fun y => directWrite_entry y _ _ _ s) fun _ k =>
        k.both (allocation_within_of may.ranged)
    | compute => exact frame (computeOne_only ..) rfl
  | power a | audio a | port a | unit a | set a | plain a => exact frame a.only rfl

theorem tick_stored (s : State) : (tick s).store = s.store.tick := by
  have store : s.store = (s.eachZone fun z s => s.updPower z PowerUnit.tick).store :=
    (Only.eachZone (l := [.power]) _ (fun z s => updPower_only s z PowerUnit.tick) s).same .store (by decide)
  rw [store]
  rfl

theorem StoreUnit.Ranged.tick {x : StoreUnit} (h : x.Ranged) : x.tick.Ranged := by
  unfold StoreUnit.tick
  split
  · refine ⟨h.1, fun op hop => ?_⟩
    obtain ⟨y, hy, rfl⟩ := Option.map_eq_some_iff.mp hop
    exact h.2 y hy
  · exact h

/-- A reset keeps the contents of the sectors, and begins with no write operation. -/
theorem afterReset_ranged {v : Vector Sector 41} (h : ∀ n : SectorNo, v[n].contents.within = true)
    {pending : List Instr} {temp : TempUnit} {kind : ResetKind} {n : Nat} {a : Vector Bool 32} :
    (afterReset pending v temp kind n a).store.Ranged := by
  have sectors : (afterReset pending v temp kind n a).store.sectors = scan v := rfl
  have op : (afterReset pending v temp kind n a).store.op = none := rfl
  refine ⟨fun m => ?_, fun x hx => ?_⟩
  · rw [sectors, scan_contents]
    exact h m
  · rw [op] at hx
    cases hx

theorem stored_act (h : RangeInv s) (a : Act s t) : t.store.Ranged := by
  obtain ⟨-, -, store, -⟩ := (rangeInv_iff s).mp h
  have frame : ∀ {l : List Part} {u : State}, Only l s u → Part.among l (Part.besides [.store]) = true →
      u.store.Ranged := fun k hl => k.besides hl (p := .store) (by decide) ▸ store
  cases a with
  | reset a =>
    cases a with
    | reset => exact afterReset_ranged store.1
    | startUp => rw [startUp_store]; exact store
  | tick => rw [tick_stored]; exact store.tick
  | complete => exact frame (completeHand_only s) rfl
  | unit a =>
    cases a with
    | probe => exact frame (updProbe_only ..) rfl
    | store kept => exact kept.ranged h
    | supervision => exact frame (supervision_only ..) rfl
  | service a | record a | power a | audio a | port a | set a | plain a => exact frame a.only rfl

theorem afterReset_settings (v : Vector Sector 41) {pending : List Instr} {temp : TempUnit} {kind : ResetKind} {n : Nat}
    {a : Vector Bool 32} : (afterReset pending v temp kind n a).settings.within = true := by
  simp only [afterReset]
  exact settingsFrom_within _

theorem sensorFields_within {x : Settings} (n : Fin 8) {f : SensorFields} (address : 0x08 ≤ f.address ∧ f.address ≤ 0x77)
    (h : x.within = true) : { x with sensors := x.sensors.set n f }.within = true := by
  simp only [Settings.within, Bool.and_eq_true] at h ⊢
  refine ⟨h.1, List.all_eq_true.mpr fun g hg => ?_⟩
  rw [Vector.mem_toList_iff] at hg
  rcases Vector.mem_or_eq_of_mem_set hg with k | rfl
  · exact List.all_eq_true.mp h.2 g (by rwa [Vector.mem_toList_iff])
  · exact decide_eq_true address

set_option Elab.async true in
theorem settings_act (h : RangeInv s) (a : Act s t) : t.settings.within = true := by
  obtain ⟨-, -, -, settings⟩ := (rangeInv_iff s).mp h
  have frame : ∀ {l : List Part} {u : State}, Only l s u → Part.among l (Part.besides [.settings]) = true →
      u.settings.within = true := fun k hl => k.besides hl (p := .settings) (by decide) ▸ settings
  cases a with
  | reset a =>
    cases a with
    | reset => exact afterReset_settings _
    | startUp => exact frame (startUp_only s) rfl
  | tick => exact frame (tick_only s) rfl
  | complete => exact frame (completeHand_only s) rfl
  | set a =>
    cases a with
    | offer => exact frame (offer_only ..) rfl
    | settings ranged => exact ranged h
    | sensorFields n address => exact sensorFields_within n address settings
    | sensor => exact frame (updSensor_only ..) rfl
    | round => exact frame (setRound_only ..) rfl
    | timer => exact frame (loadTimer_only s) rfl
  | service a | record a | power a | audio a | port a | unit a | plain a => exact frame a.only rfl

theorem rangeInv_act (h : RangeInv s) (a : Act s t) : RangeInv t :=
  (rangeInv_iff t).mpr ⟨records_act h a, holds_act ((rangeInv_iff s).mp h).2.1 a fun _ k => k.ranged h,
    stored_act h a, settings_act h a⟩

end Sys2Proof.Machine
end

section
/-! PROOFS. Events: most operations change the ports by raising events alone, which leaves the links as they are and the
flags within their limits (R182, R185, R188). -/

namespace Sys2Proof.Machine

-- One theorem at a time, and a long one, marked, on a thread of its own: the compile has 22 GiB. The two linters do
-- not see into such a proof.
set_option Elab.async false
set_option linter.unusedTactic false
set_option linter.unreachableTactic false

variable {s t u : State} {l : List Part}

/-! ### Ports changed by events alone -/

/-- Whatever of the ports every raised event keeps is kept: the ports differ by raised events alone. -/
structure Raised (s t : State) : Prop where
  keeps : ∀ P : Vector PortState 3 → Prop, (∀ (u : State) p d, P u.ports → P (u.raise p d).ports) → P s.ports → P t.ports

theorem Raised.refl (s : State) : Raised s s := ⟨fun _ _ h => h⟩

theorem Raised.trans (h : Raised s t) (k : Raised t u) : Raised s u :=
  ⟨fun P r x => k.keeps P r (h.keeps P r x)⟩

theorem Raised.ite {c : Prop} [Decidable c] (h : Raised s t) (k : Raised s u) : Raised s (if c then t else u) := by
  split
  · exact h
  · exact k

theorem Raised.eachOf (zs : List Zone) {f : Zone → State → State} (h : ∀ z s, Raised s (f z s)) (s : State) :
    Raised s (s.eachOf zs f) :=
  State.eachOf_keeps (P := Raised s) zs f (fun z t ht => ht.trans (h z t)) s (.refl s)

theorem Raised.eachZone {f : Zone → State → State} (h : ∀ z s, Raised s (f z s)) (s : State) :
    Raised s (s.eachZone f) := Raised.eachOf allZones h s

theorem Only.raised (k : Only l s t) (hl : Part.ports ∉ l) : Raised s t := ⟨fun P _ h => by
  have e : s.ports = t.ports := k.same .ports hl
  exact e ▸ h⟩

theorem raise_raised (s : State) (p : Port) (d : Detail) : Raised s (s.raise p d) := ⟨fun _ r h => r s p d h⟩

theorem raiseAll_raised (s : State) (ps : List Port) (d : Detail) : Raised s (s.raiseAll ps d) :=
  List.foldlRecOn (motive := Raised s) ps _ (.refl s) fun _ h _ _ => h.trans (raise_raised ..)

theorem raiseHeld_raised (s : State) (z : Zone) (a b : TargetState) : Raised s (raiseHeld s z a b) := by
  unfold raiseHeld
  split
  · split
    · exact raise_raised ..
    · exact .refl s
  · exact .refl s

theorem raiseClamped_raised (s : State) (z : Zone) (t : TargetState) : Raised s (raiseClamped s z t) := by
  unfold raiseClamped
  split
  · exact .refl s
  all_goals exact raise_raised ..

theorem computeOne_raised (c : ComputationClass) (z : Zone) (s : State) : Raised s (computeOne c z s) := by
  have held := fun x => ((updTarget_only s z fun _ => x).raised (by decide)).trans
    (raiseHeld_raised (s.updTarget z fun _ => x) z (s.zone z).target x)
  exact Raised.ite ((held _).trans (raiseClamped_raised ..)) (held _)

theorem compute_raised (c : ComputationClass) (b : Bool) (z : Zone) (s : State) : Raised s (compute c b z s) := by
  have h := computeOne_raised c z s
  exact Raised.ite (h.trans (Raised.eachOf _ (computeOne_raised .record) _)) h

theorem changeNotice_raised (z : Zone) (g : List FieldGroup) (r : ZoneRecord) (s : State) :
    Raised s (changeNotice z g r s) := by
  refine Raised.trans ?_ ((eqNotice_only z g r _).raised (by decide))
  exact Raised.ite (compute_raised ..) (Raised.ite (compute_raised ..) (.refl s))

theorem transferWork_raised (s : State) : Raised s (transferWork s) :=
  ((Only.eachZone (l := [.entry]) _ (fun z s => updEntry_only s z transferEntry) s).raised (by decide)).trans
    (Raised.eachZone (fun _ u => Raised.ite (changeNotice_raised ..) (.refl u)) _)

theorem directWrite_raised (z : Zone) (g : FieldGroup) (f : ZoneRecord → ZoneRecord) (s : State) :
    Raised s (directWrite z g f s) :=
  ((writeBoth_only z f s).raised (by decide)).trans (changeNotice_raised ..)

theorem enableZone_raised (z : Zone) (s : State) : Raised s (enableZone z s) :=
  (directWrite_raised ..).trans ((enableZone_rest z s).raised (by decide))

theorem abortWindow_raised (s : State) : Raised s (abortWindow s) := by
  unfold abortWindow
  split
  · exact ((updProbe_only ..).raised (by decide)).trans
      (((updProbe_only ..).raised (by decide)).trans (raise_raised ..))
  · exact .refl s

theorem probeRemoved_raised (z : Zone) (r : CancelReason) (s : State) : Raised s (probeRemoved z r s) := by
  have cancelled : Raised s (probeCancel r s) :=
    (((abortWindow_raised s).trans ((updProbe_only ..).raised (by decide))).trans
      ((probeDrop_only ..).raised (by decide))).trans (raise_raised ..)
  refine Raised.ite ?_ (.refl s)
  split
  · exact .refl s
  · exact .refl s
  all_goals exact cancelled

theorem raiseLost_raised (z : Zone) (l : List RouteEntry) (p : Port) (s : State) : Raised s (raiseLost z l p s) :=
  Raised.ite (.refl s) (raise_raised ..)

theorem disableStopped_raised (z : Zone) (s : State) : Raised s (disableStopped z s) := by
  have emptied := (updRoute_only s z fun r => { r with entries := [], fade := .atRest none }).raised (by decide)
  have cancelled := Raised.ite (c := (s.zone z).route.entries.any RouteEntry.isProbe = true)
    (emptied.trans (probeRemoved_raised z .zoneDisabled _)) emptied
  exact cancelled.trans ((setPower_only z .disabled _).raised (by decide))

theorem disableZone_raised (z : Zone) (s : State) : Raised s (disableZone z s) := by
  have written := (disableStopped_raised z s).trans
    (directWrite_raised z .enable (fun r => { r with enabled := false }) (disableStopped z s))
  have lined := written.trans ((updLine_only _ z fun _ => { dCur := 0, writePos := 0 }).raised (by decide))
  exact (lined.trans (raiseLost_raised z (s.zone z).route.entries .P _)).trans (raiseLost_raised ..)

theorem landChange_raised (e : QueueEntry) (s : State) : Raised s (landChange e s) := by
  unfold landChange
  split
  · exact raise_raised ..
  · exact (writeChange_only ..).raised (by decide)

theorem completeHand_raised (s : State) : Raised s (completeHand s) := by
  unfold completeHand
  split
  · next h _ =>
    have landed := (landChange_raised h.entry s).trans
      ((queue_only _ { (landChange h.entry s).queue with hand := none }).raised (by decide))
    exact (landed.trans (Raised.ite (raise_raised ..) (.refl _))).trans ((takeNext_only _).raised (by decide))
  · exact .refl s

theorem clipCount_raised (z : Zone) (b : Bool) (s : State) : Raised s (clipCount z b s) := by
  have counted := fun f => (updGain_only s z f).raised (by decide)
  exact Raised.ite ((counted _).trans (raiseAll_raised ..)) (counted _)

theorem feedZone_raised (x : Vector Sample 8) (y : Sample) (z : Zone) (s : State) : Raised s (feedZone x y z s).1 := by
  have h := fun f g => ((updRoute_only s z f).raised (by decide)).trans
    ((updEq_only (s.updRoute z f) z g).raised (by decide))
  unfold feedZone
  dsimp only
  split
  · exact (h _ _).trans (clipCount_raised ..)
  · exact h _ _

theorem scaleZone_raised (z : Zone) (k : Nat) (y : Sample) (s : State) : Raised s (scaleZone z k y s) := by
  have scaled := fun f => (updGain_only s z f).raised (by decide)
  unfold scaleZone
  dsimp only
  refine Raised.trans ?_ ((tdmOut_only _ _).raised (by decide))
  split
  · exact (scaled _).trans (clipCount_raised ..)
  · exact scaled _

theorem sampleZone_raised (x : Vector Sample 8) (y : Sample) (k : Nat) (z : Zone) (s : State) :
    Raised s (sampleZone x y k z s) := by
  unfold sampleZone
  split
  · have fed := feedZone_raised x y z s
    generalize feedZone x y z s = u at fed
    exact (fed.trans ((delayZone_only z u.2 u.1).raised (by decide))).trans (scaleZone_raised ..)
  · exact (tdmOut_only ..).raised (by decide)

theorem startUp_raised (s : State) : Raised s (startUp s) := by
  unfold startUp startRound
  dsimp only
  refine Raised.trans ?_ ((roundOn_only ..).raised (by decide))
  refine Raised.trans ?_ ((loadTimer_only _).raised (by decide))
  refine Raised.trans ?_ ((updStore_only ..).raised (by decide))
  refine Raised.trans ?_ (raiseAll_raised ..)
  refine Raised.trans ?_ ((Only.eachZone _ eqSetUp_only _).raised (by decide))
  refine Raised.trans ?_ ((Only.eachZone _ lineUp_only _).raised (by decide))
  refine Raised.trans ?_ (Raised.eachZone (compute_raised .record false) _)
  refine Raised.trans ?_ ((Only.eachZone _ comeUp_only _).raised (by decide))
  refine Raised.trans ?_ ((Only.eachZone _ applySceneZero_only _).raised (by decide))
  exact (Only.eachZone _ loadZone_only s).raised (by decide)

/-! ### The ports of the acts -/

/-- The ports of a state, less what no event touches: the flags within their limits, and the buffers in their places
(R182, R185, R188). -/
def PortState.Kept (x : PortState) : Prop :=
  (∀ k : Fin 16, x.notes[k].level ≤ 7 ∧ x.notes[k].count ≤ 255 ∧ (x.notes[k].detail = none → x.notes[k].count = 0)) ∧
    x.link.buffer.length ≤ 2

/-- A flag within its limits (R182). -/
def NoteFlag.Within (f : NoteFlag) : Prop := f.level ≤ 7 ∧ f.count ≤ 255 ∧ (f.detail = none → f.count = 0)

theorem NoteFlag.Within.hit {f : NoteFlag} (h : f.Within) (d : Detail) : (f.hit d).Within := by
  unfold NoteFlag.hit
  split
  · exact ⟨h.1, Nat.min_le_right .., nofun⟩
  · exact h

set_option Elab.async true in
theorem notes_set {v : Vector NoteFlag 16} (k : Fin 16) {f : NoteFlag} (hf : f.Within)
    (h : ∀ j : Fin 16, v[j].Within) (j : Fin 16) : (v.set k f)[j].Within := by
  by_cases e : j = k
  · subst e
    simpa using hf
  · have ne : k.val ≠ j.val := fun q => e (Fin.ext q.symm)
    simpa [ne] using h j

/-- Every port within its limits. -/
def PortsKept (s : State) : Prop := ∀ p, (s.port p).Kept

/-- One port changed. -/
theorem updPort_kept {p : Port} {f : PortState → PortState} (h : PortsKept s)
    (hf : (s.port p).Kept → (f (s.port p)).Kept) : PortsKept (s.updPort p f) := fun q => by
  by_cases e : q = p
  · subst e
    rw [State.port_updPort_same]
    exact hf (h q)
  · rw [State.port_updPort_other s f e]
    exact h q

set_option Elab.async true in
theorem PortState.Kept.note {x : PortState} (h : x.Kept) (k : Fin 16) {f : NoteFlag → NoteFlag}
    (hf : x.notes[k].Within → (f x.notes[k]).Within) : { x with notes := x.notes.set k (f x.notes[k]) }.Kept :=
  ⟨notes_set k (hf (h.1 k)) h.1, h.2⟩

theorem raise_kept (p : Port) (d : Detail) (h : PortsKept s) : PortsKept (s.raise p d) :=
  updPort_kept h fun k => k.note d.kind fun w => w.hit d

theorem Raised.kept (k : Raised s t) (h : PortsKept s) : PortsKept t :=
  k.keeps (fun v => ∀ p, v[portPlace p].Kept) (fun _ p d h => raise_kept p d h) h

theorem portsKept_iff (s : State) : PortsKept s ↔ NoteInv s ∧ ∀ p, (s.port p).link.buffer.length ≤ 2 :=
  forall_and

set_option Elab.async true in
theorem reset_ports : ∀ p, (State.reset.port p).Kept := by
  have initial : PortState.initial.Kept := by
    refine ⟨?_, by decide⟩
    decide
  intro p
  cases p <;> exact initial

set_option Elab.async true in
theorem ports_act (h : PortsKept s) (a : Act s t) : PortsKept t := by
  have frame : ∀ {l : List Part} {u : State}, Only l s u → Part.among l (Part.besides [.ports]) = true →
      PortsKept u := fun k hl p => by
    rw [State.port, ← k.besides hl (p := .ports) (by decide)]
    exact h p
  cases a with
  | reset a =>
    cases a with
    | reset => exact reset_ports
    | startUp => exact (startUp_raised s).kept h
  | tick => exact frame (tick_only s) rfl
  | complete => exact (completeHand_raised s).kept h
  | service a =>
    cases a with
    | enable => exact (enableZone_raised ..).kept h
    | disable => exact (disableZone_raised ..).kept h
  | record a =>
    cases a with
    | transfer => exact (transferWork_raised s).kept h
    | allocate => exact (directWrite_raised ..).kept h
    | compute => exact (computeOne_raised ..).kept h
  | audio a =>
    cases a with
    | slew => exact frame (slewZone_only ..) rfl
    | gain => exact frame (gainZone_only ..) rfl
    | sample => exact (sampleZone_raised ..).kept h
    | clip => exact frame (updGain_only ..) rfl
  | port a =>
    cases a with
    | raise => exact raise_kept _ _ h
    | noteSet _ j b level =>
      exact updPort_kept h fun k => k.note j (f := fun f => { f with enable := b, level := _ }) fun w => ⟨level, w.2⟩
    | noteClear _ j => exact updPort_kept h fun k => k.note j fun w => ⟨w.1, Nat.zero_le _, fun _ => rfl⟩
    | link places => exact updPort_kept h fun k => ⟨k.1, places k.2⟩
  | power a | unit a | set a | plain a => exact frame a.only rfl

end Sys2Proof.Machine
end

section
/-! PROOFS. The counters and timers (R79 to R81, R100, R107, R130, R145, R147, R153, R161, R169, R180). -/

namespace Sys2Proof.Machine

-- One theorem at a time, and a long one, marked, on a thread of its own: the compile has 22 GiB. The two linters do
-- not see into such a proof.
set_option Elab.async false
set_option linter.unusedTactic false
set_option linter.unreachableTactic false

variable {s t : State} {l : List Part}

/-! ### The counters of a zone -/

/-- A crossfade has not gone beyond its length (R100). -/
def EqMode.Counted (m : EqMode) : Prop := ∀ inc p k held, m = .xfade inc p k held → p ≤ 768

theorem EqMode.counted_steady : EqMode.Counted .steady := nofun

theorem EqMode.counted_wait : EqMode.Counted .wait := nofun

theorem EqMode.counted_xfade {inc : Cascade} {p : Nat} {k : Fin 4} {held : Bool} (h : p ≤ 768) :
    EqMode.Counted (.xfade inc p k held) := fun _ _ _ _ e => by cases e; exact h

/-- The counters of a zone within their limits (R100, R107, R130). -/
structure ZoneState.Counted (x : ZoneState) : Prop where
  frames : x.power.framesInState ≤ 65535000
  clip : x.gain.clip ≤ 65535
  mode : x.eq.mode.Counted

def ZonesCounted (s : State) : Prop := ∀ z, (s.zone z).Counted

theorem Only.zonesCounted (k : Only l s t) (power : Part.power ∉ l) (gain : Part.gain ∉ l) (eq : Part.eq ∉ l)
    (h : ZonesCounted s) : ZonesCounted t := fun z => by
  have p : (s.zone z).power = (t.zone z).power := k.same .power power z
  have g : (s.zone z).gain = (t.zone z).gain := k.same .gain gain z
  have e : (s.zone z).eq = (t.zone z).eq := k.same .eq eq z
  exact ⟨p ▸ (h z).frames, g ▸ (h z).clip, e ▸ (h z).mode⟩

/-- One zone changed. -/
theorem ZonesCounted.updZone (h : ZonesCounted s) {z : Zone} {f : ZoneState → ZoneState}
    (hf : (s.zone z).Counted → (f (s.zone z)).Counted) : ZonesCounted (s.updZone z f) := fun y => by
  rw [State.zone_updZone]
  split
  · next e => subst e; exact hf (h y)
  · exact h y

theorem ZonesCounted.updEq (h : ZonesCounted s) {z : Zone} {f : EqState → EqState}
    (hf : (s.zone z).eq.mode.Counted → (f (s.zone z).eq).mode.Counted) : ZonesCounted (s.updEq z f) :=
  h.updZone fun k => ⟨k.frames, k.clip, hf k.mode⟩

theorem ZonesCounted.updGain (h : ZonesCounted s) {z : Zone} {f : GainState → GainState}
    (hf : (s.zone z).gain.clip ≤ 65535 → (f (s.zone z).gain).clip ≤ 65535) : ZonesCounted (s.updGain z f) :=
  h.updZone fun k => ⟨k.frames, hf k.clip, k.mode⟩

theorem ZonesCounted.updPower (h : ZonesCounted s) {z : Zone} {f : PowerUnit → PowerUnit}
    (hf : (s.zone z).power.framesInState ≤ 65535000 → (f (s.zone z).power).framesInState ≤ 65535000) :
    ZonesCounted (s.updPower z f) := h.updZone fun k => ⟨hf k.frames, k.clip, k.mode⟩

/-! ### The EQ unit -/

theorem eqSetUp_counted (z : Zone) (h : ZonesCounted s) : ZonesCounted (eqSetUp z s) :=
  h.updEq fun _ => EqMode.counted_steady

theorem grantLoop_counted (zs : List Zone) (h : ZonesCounted s) : ZonesCounted (grantLoop zs s) := by
  induction zs generalizing s with
  | nil => exact h
  | cons z zs ih =>
    unfold grantLoop
    split
    · exact h
    · have k : ZonesCounted { s with eqWait := zs } := h
      dsimp only
      split
      · exact ih (k.updEq fun _ => EqMode.counted_steady)
      · exact ih (k.updEq fun _ => EqMode.counted_xfade (Nat.zero_le _))

theorem eqGrant_counted (h : ZonesCounted s) : ZonesCounted (eqGrant s) := grantLoop_counted _ h

theorem eqJoin_counted (z : Zone) (h : ZonesCounted s) : ZonesCounted (eqJoin z s) := by
  have waits := h.updEq (z := z) (f := fun e => { e with mode := .wait }) fun _ => EqMode.counted_wait
  exact eqGrant_counted (s := { s.updEq z (fun e => { e with mode := .wait }) with eqWait := s.eqWait ++ [z] }) waits

theorem bankChange_counted (z : Zone) (h : ZonesCounted s) : ZonesCounted (bankChange z s) := by
  unfold bankChange
  split
  · split
    · exact eqJoin_counted z h
    · exact h
    · next e => exact h.updEq fun k => EqMode.counted_xfade (k _ _ _ _ e)
  · exact eqSetUp_counted z h

theorem eqLeave_counted (z : Zone) (h : ZonesCounted s) : ZonesCounted (eqLeave z s) := by
  unfold eqLeave
  split
  · exact h
  · exact eqSetUp_counted (s := { s with eqWait := s.eqWait.filter fun x => decide (x ≠ z) }) z h
  · exact eqGrant_counted (eqSetUp_counted z h)

theorem eqStop_counted (z : Zone) (h : ZonesCounted s) : ZonesCounted (eqStop z s) := h.updEq id

theorem crossfadeFinish_counted (z : Zone) (h : ZonesCounted s) : ZonesCounted (crossfadeFinish z s) := by
  unfold crossfadeFinish
  split
  · exact eqJoin_counted z (h.updEq fun _ => EqMode.counted_steady)
  · exact eqGrant_counted (h.updEq fun _ => EqMode.counted_steady)
  all_goals exact h

theorem eqStep_mode {e : EqState} (x : Sample) (h : e.mode.Counted) : (eqStep e x).1.mode.Counted := by
  unfold eqStep
  dsimp only
  split
  · next k => exact h
  · next k => exact h
  · exact EqMode.counted_xfade (Nat.min_le_right ..)

/-! ### Power states -/

theorem onPower_clip (g : GainState) (a b : PowerState) (n : Nat) : (g.onPower a b n).clip = g.clip := by
  unfold GainState.onPower
  (repeat' split) <;> rfl

theorem setPower_counted (z : Zone) (p : PowerState) (h : ZonesCounted s) : ZonesCounted (setPower z p s) := by
  have powered := h.updPower (z := z) (f := fun _ => { state := p, framesInState := 0, fresh := s.atMark })
    fun _ => Nat.zero_le _
  have gained := powered.updGain (z := z) (f := fun g => g.onPower (s.powerOf z) p s.sampleIndex) fun k =>
    (onPower_clip ..).symm ▸ k
  unfold setPower
  dsimp only
  split <;> split
  · exact eqLeave_counted z gained
  · exact gained
  · exact eqStop_counted z (eqLeave_counted z gained)
  · exact eqStop_counted z gained

theorem winnerPower_counted (z : Zone) (a b : Option RouteEntry) (h : ZonesCounted s) :
    ZonesCounted (winnerPower z a b s) := by
  rw [winnerPower_eq]
  split
  · exact h
  · exact setPower_counted z _ h

theorem fadeEndPower_counted (z : Zone) (h : ZonesCounted s) : ZonesCounted (fadeEndPower z s) := by
  unfold fadeEndPower
  split
  · exact setPower_counted z _ h
  · exact h

theorem setRoutes_counted (z : Zone) (l : List RouteEntry) (h : ZonesCounted s) : ZonesCounted (setRoutes z l s) := by
  by_cases k : s.winner z = l.head?
  · rw [setRoutes_same k]
    exact (updRoute_only ..).zonesCounted (by decide) (by decide) (by decide) h
  · have written := (routeWritten_only z l s).zonesCounted (by decide) (by decide) (by decide) h
    have noticed := winnerPower_counted z (s.winner z) l.head? written
    rw [setRoutes_other k]
    split
    · exact fadeEndPower_counted z noticed
    · exact noticed

theorem grant_counted (z : Zone) (h : ZonesCounted s) : ZonesCounted (grant z s) := by
  have waking := setPower_counted z (.waking (s.active z).wakeTime) h
  unfold grant
  dsimp only
  split
  · exact setPower_counted z _ waking
  · exact waking

/-! ### Notices, enabling and disabling -/

theorem changeNotice_counted (z : Zone) (g : List FieldGroup) (r : ZoneRecord) (h : ZonesCounted s) :
    ZonesCounted (changeNotice z g r s) := by
  have computed := (targetNotice_only z g s).zonesCounted (by decide) (by decide) (by decide) h
  unfold changeNotice eqNotice
  split
  · exact bankChange_counted z computed
  · exact computed

theorem transferWork_counted (h : ZonesCounted s) : ZonesCounted (transferWork s) := by
  have copied := (Only.eachZone (l := [.entry]) _ (fun z s => updEntry_only s z transferEntry) s).zonesCounted
    (by decide) (by decide) (by decide) h
  refine State.eachZone_keeps _ (fun z u hu => ?_) _ copied
  unfold transferNotice
  split
  · exact changeNotice_counted z _ _ hu
  · exact hu

theorem directWrite_counted (z : Zone) (g : FieldGroup) (f : ZoneRecord → ZoneRecord) (h : ZonesCounted s) :
    ZonesCounted (directWrite z g f s) :=
  changeNotice_counted z _ _ ((writeBoth_only z f s).zonesCounted (by decide) (by decide) (by decide) h)

theorem enableZone_counted (z : Zone) (h : ZonesCounted s) : ZonesCounted (enableZone z s) := by
  have written := directWrite_counted z .enable (fun r => { r with enabled := true }) h
  have cleared := (clearLine_only z _).zonesCounted (by decide) (by decide) (by decide) written
  unfold enableZone
  dsimp only
  refine setPower_counted z .parked ?_
  refine (updRoute_only ..).zonesCounted (by decide) (by decide) (by decide) (eqSetUp_counted z ?_)
  exact (updLine_only ..).zonesCounted (by decide) (by decide) (by decide) cleared

theorem disableStopped_counted (z : Zone) (h : ZonesCounted s) : ZonesCounted (disableStopped z s) := by
  have emptied := updRoute_only s z fun r => { r with entries := [], fade := .atRest none }
  have empty : ((s.updRoute z fun r => { r with entries := [], fade := .atRest none }).zone z).route.entries = [] := by
    rw [updRoute_route, if_pos rfl]
  have removed := Only.ite ((s.zone z).route.entries.any RouteEntry.isProbe = true)
    ((emptied.mono (m := [.route, .probe, .ports]) rfl).trans ((probeRemoved_empty .zoneDisabled empty).mono rfl))
    (emptied.mono rfl)
  exact setPower_counted z .disabled (removed.zonesCounted (by decide) (by decide) (by decide) h)

theorem disableZone_counted (z : Zone) (h : ZonesCounted s) : ZonesCounted (disableZone z s) :=
  (disableZone_rest z s).zonesCounted (by decide) (by decide) (by decide)
    (directWrite_counted z .enable (fun r => { r with enabled := false }) (disableStopped_counted z h))

/-! ### Frame marks, sample periods and start-up -/

theorem tickRest_counted {z : Zone} (h : ZonesCounted s) : ((tick s).zone z).Counted := by
  have counted : ZonesCounted (s.eachZone fun z s => s.updPower z PowerUnit.tick) :=
    State.eachZone_keeps _ (fun z u hu => hu.updPower fun k => by
      unfold PowerUnit.tick
      split
      · exact k
      · exact Nat.min_le_right ..) s h
  exact (tickRest_only _ _ _ _ _ _ _ _).zonesCounted (by decide) (by decide) (by decide) counted z

theorem gainZone_counted (z : Zone) (h : ZonesCounted s) : ZonesCounted (gainZone z s) := by
  have clip : ∀ (g : GainState) r n p, (g.atMark r n p).clip = g.clip := fun g r n p => by
    unfold GainState.atMark
    dsimp only
    split <;> rfl
  unfold gainZone
  dsimp only
  split
  · exact ((updRoute_only ..).zonesCounted (by decide) (by decide) (by decide) h).updGain fun k => (clip ..).symm ▸ k
  · exact h.updGain fun k => (clip ..).symm ▸ k

theorem clipCount_counted (z : Zone) (b : Bool) (h : ZonesCounted s) : ZonesCounted (clipCount z b s) := by
  have counted := h.updGain (z := z) (f := fun g => { g with clip := min (g.clip + 1) Config.clipMax })
    fun _ => Nat.min_le_right ..
  unfold clipCount
  dsimp only
  split
  · exact (raiseAll_only ..).zonesCounted (by decide) (by decide) (by decide) counted
  · exact counted

theorem feedZone_counted (x : Vector Sample 8) (y : Sample) (z : Zone) (h : ZonesCounted s) :
    ZonesCounted (feedZone x y z s).1 := by
  have routed := fun f => (updRoute_only s z f).zonesCounted (by decide) (by decide) (by decide) h
  unfold feedZone
  dsimp only
  split
  · exact clipCount_counted z false ((routed _).updEq fun k => eqStep_mode _ k)
  · exact (routed _).updEq fun k => eqStep_mode _ k

theorem scaleZone_counted (z : Zone) (k : Nat) (y : Sample) (h : ZonesCounted s) : ZonesCounted (scaleZone z k y s) := by
  have scaled := fun f : GainState → GainState => fun hf => h.updGain (z := z) (f := f) hf
  unfold scaleZone
  dsimp only
  refine (tdmOut_only _ _).zonesCounted (by decide) (by decide) (by decide) ?_
  split
  · exact clipCount_counted z true (scaled _ id)
  · exact scaled _ id

theorem sampleZone_counted (x : Vector Sample 8) (y : Sample) (k : Nat) (z : Zone) (h : ZonesCounted s) :
    ZonesCounted (sampleZone x y k z s) := by
  unfold sampleZone
  split
  · have fed := feedZone_counted x y z h
    generalize feedZone x y z s = u at fed
    exact scaleZone_counted z k _ ((delayZone_only z u.2 u.1).zonesCounted (by decide) (by decide) (by decide) fed)
  · exact (tdmOut_only ..).zonesCounted (by decide) (by decide) (by decide) h

/-- Start-up with STARTUP_DONE raised and the store READY. -/
def startDone (s : State) : State :=
  (((startLined s).eachZone eqSetUp).raiseAll [.P, .V, .C] (.startupDone (decide
    (((startLined s).eachZone eqSetUp).lastReset ≠ .cold)))).updStore fun x => { x with state := .ready }

theorem startDone_rest (s : State) : Only [.ports, .store] ((startLined s).eachZone eqSetUp) (startDone s) :=
  ((raiseAll_only ..).mono rfl).trans ((updStore_only ..).mono rfl)

/-- Start-up ends with the poll timer loaded and the first round (R81). -/
theorem startUp_eq (s : State) : startUp s = startRound (loadTimer (startDone s)) := rfl

set_option Elab.async true in
theorem startUp_counted (h : ZonesCounted s) : ZonesCounted (startUp s) := by
  have loaded := (startLoaded_only s).zonesCounted (by decide) (by decide) (by decide) h
  have powered : ZonesCounted (startPowered s) := by
    refine State.eachZone_keeps _ (fun z u hu => ?_) _ loaded
    unfold comeUp
    dsimp only
    split <;> split
    all_goals first | exact hu | exact hu.updPower fun _ => Nat.zero_le _
  have computed := (startComputed_only s).zonesCounted (by decide) (by decide) (by decide) powered
  have lined := (startLined_only s).zonesCounted (by decide) (by decide) (by decide) computed
  have cascades : ZonesCounted ((startLined s).eachZone eqSetUp) :=
    State.eachZone_keeps _ (fun z _ hu => eqSetUp_counted z hu) _ lined
  have rest : Only [.ports, .store, .temp] ((startLined s).eachZone eqSetUp) (startUp s) := by
    rw [startUp_eq, startRound]
    exact (((startDone_rest s).mono rfl).trans ((loadTimer_only _).mono rfl)).trans ((roundOn_only ..).mono rfl)
  exact rest.zonesCounted (by decide) (by decide) (by decide) cascades

theorem initial_counted : ZoneState.initial.Counted := ⟨Nat.zero_le _, Nat.zero_le _, EqMode.counted_steady⟩

set_option Elab.async true in
theorem zonesCounted_act (h : ZonesCounted s) (a : Act s t) : ZonesCounted t := by
  cases a with
  | reset a =>
    cases a with
    | reset => exact fun z => by simpa only [afterReset_zone] using initial_counted
    | startUp => exact startUp_counted h
  | tick => exact fun z => tickRest_counted h
  | complete => exact (completeHand_only s).zonesCounted (by decide) (by decide) (by decide) h
  | service a =>
    cases a with
    | @enable z => exact enableZone_counted z h
    | @disable z => exact disableZone_counted z h
  | record a =>
    cases a with
    | transfer => exact transferWork_counted h
    | @allocate z => exact directWrite_counted z _ _ h
    | compute c z => exact (computeOne_only c z s).zonesCounted (by decide) (by decide) (by decide) h
  | power a =>
    cases a with
    | @routes z l => exact setRoutes_counted z l h
    | fadeRest z =>
      exact fadeEndPower_counted z ((updRoute_only ..).zonesCounted (by decide) (by decide) (by decide) h)
    | @wake z => exact setPower_counted z _ h
    | @park z => exact setPower_counted z _ h
    | @grant z => exact grant_counted z h
    | crossfadeEnd z => exact crossfadeFinish_counted z h
  | audio a =>
    cases a with
    | slew z => exact (slewZone_only z s).zonesCounted (by decide) (by decide) (by decide) h
    | gain z => exact gainZone_counted z h
    | sample x y k z => exact sampleZone_counted x y k z h
    | clip z => exact h.updGain fun _ => Nat.zero_le _
  | port a | unit a | set a | plain a => exact a.only.zonesCounted (by decide) (by decide) (by decide) h

/-! ### The units -/

theorem ProbeUnit.Counted.tick {x : ProbeUnit} (h : x.Counted) : x.tick.Counted := by
  unfold ProbeUnit.tick
  split
  · next r hr =>
    refine h.state fun e d w b q => ?_
    rw [ProbeState.run_setRun hr, Option.some.injEq] at q
    cases r with
    | toOpen n => cases q
    | opened e' d' w' b' =>
      have k := h.2.1 _ _ _ _ hr
      have period := h.1.2.1.2
      simp only [Run.tick] at q
      split at q <;> simp only [Run.opened.injEq] at q <;> omega
  · exact h

theorem SensorRecord.Counted.tick {r : SensorRecord} (h : r.Counted) : r.tick.Counted := by
  unfold SensorRecord.tick
  split
  · exact h
  · exact ⟨h.1, Nat.min_le_right ..⟩

theorem Supervision.Counted.tick {x : Supervision} (h : x.Counted) : x.tick.Counted := by
  unfold Supervision.tick
  split
  · exact h
  · split
    · next n e =>
      refine ⟨h.1, fun m k => ?_⟩
      cases k
      exact (Nat.sub_le ..).trans (h.2 n e)
    all_goals exact h

theorem StoreUnit.Counted.tick {x : StoreUnit} (h : x.Counted) : x.tick.Counted := by
  unfold StoreUnit.tick
  split <;> exact h

theorem TempUnit.Counted.tick {x : TempUnit} (h : x.Counted) : x.tick.Counted := by
  refine ⟨fun n => ?_, fun n hn => ?_⟩
  · simpa [TempUnit.tick] using (h.1 n).tick
  · simp only [TempUnit.tick] at hn
    split at hn
    · exact h.2 n hn
    · obtain ⟨m, hm, rfl⟩ := Option.map_eq_some_iff.mp hn
      exact (Nat.sub_le ..).trans (h.2 m hm)

theorem loadTimer_counted (h : s.temp.Counted) (w : s.settings.within = true) : (loadTimer s).temp.Counted := by
  refine ⟨h.1, fun n hn => ?_⟩
  simp only [Settings.within, Bool.and_eq_true, decide_eq_true_eq] at w
  have interval := w.1.1.1.2.2
  simp only [loadTimer, Option.some.injEq, Config.framesPerSecond] at hn
  omega

theorem setRound_counted (r : Option Round) (h : s.temp.Counted) : (s.setRound r).temp.Counted := h

theorem tick_rest (s : State) : (tick s).supervision = s.supervision.tick ∧ (tick s).temp = s.temp.tick ∧
    (tick s).probe = s.probe.tick := by
  have only := Only.eachZone (l := [.power]) _ (fun z s => updPower_only s z PowerUnit.tick) s
  have supervision : s.supervision = _ := only.same .supervision (by decide)
  have temp : s.temp = _ := only.same .temp (by decide)
  have probe : s.probe = _ := only.same .probe (by decide)
  rw [supervision, temp, probe]
  exact ⟨rfl, rfl, rfl⟩

/-- A round that starts leaves the sensors and the timer alone. -/
theorem startRound_temp (s : State) : ∃ r, startRound s = s.setRound r := by
  unfold startRound roundOn
  split
  · exact ⟨_, rfl⟩
  · exact ⟨_, rfl⟩

theorem startUp_temp_counted (h : s.temp.Counted) (settings : s.settings.within = true) : (startUp s).temp.Counted := by
  obtain ⟨r, e⟩ := startRound_temp (loadTimer (startDone s))
  rw [startUp_eq, e]
  have done : Only (Part.besides [.temp, .settings]) s (startDone s) :=
    ((((((startLoaded_only s).mono rfl).trans ((startPowered_only s).mono rfl)).trans
      ((startComputed_only s).mono rfl)).trans ((startLined_only s).mono rfl)).trans
      ((Only.eachZone (l := [.eq]) _ eqSetUp_only _).mono rfl)).trans ((startDone_rest s).mono rfl)
  have temp : s.temp = (startDone s).temp := done.same .temp (by decide)
  have same : s.settings = (startDone s).settings := done.same .settings (by decide)
  exact setRound_counted r (loadTimer_counted (temp ▸ h) (same ▸ settings))

set_option Elab.async true in
theorem temp_act (h : s.temp.Counted) (w : RangeInv s) (a : Act s t) : t.temp.Counted := by
  obtain ⟨-, -, store, settings⟩ := (rangeInv_iff s).mp w
  have frame : ∀ {l : List Part} {u : State}, Only l s u → Part.among l (Part.besides [.temp]) = true →
      u.temp.Counted := fun k hl => k.besides hl (p := .temp) (by decide) ▸ h
  cases a with
  | reset a =>
    cases a with
    | reset _ _ _ counted => exact counted h
    | startUp => exact startUp_temp_counted h settings
  | tick =>
    rw [(tick_rest s).2.1]
    exact h.tick
  | complete => exact frame (completeHand_only s) rfl
  | set a =>
    cases a with
    | offer => exact frame (offer_only ..) rfl
    | settings | sensorFields | round => exact h
    | sensor counted =>
      refine ⟨fun m => ?_, h.2⟩
      show (State.sensor _ m).Counted
      rw [State.sensor_updSensor]
      split
      · exact counted (h.1 _)
      · exact h.1 m
    | timer => exact loadTimer_counted h settings
  | service a | record a | power a | audio a | port a | unit a | plain a => exact frame a.only rfl

theorem reset_probe_counted : State.reset.probe.Counted := by
  refine ⟨?_, ProbeState.marks_of_none rfl, Nat.zero_le _⟩
  unfold ProbeSettings.within
  decide

set_option Elab.async true in
theorem appendResult_counted (r : ProbeResult) (h : s.probe.Counted) : (appendResult r s).probe.Counted := by
  refine ⟨h.1, h.2.1, ?_⟩
  simp [appendResult, State.updProbe, Config.probeResults]
  omega

theorem abortWindow_counted (h : s.probe.Counted) : (abortWindow s).probe.Counted := by
  unfold abortWindow
  split
  · next hr =>
    refine appendResult_counted _ ?_
    refine h.state fun e d w b q => ?_
    rw [ProbeState.run_setRun hr] at q
    cases q
    exact h.2.1 _ _ _ _ hr
  · exact h

theorem probeRemoved_counted (z : Zone) (r : CancelReason) (h : s.probe.Counted) :
    (probeRemoved z r s).probe.Counted := by
  have idle : (probeCancel r s).probe.Counted := by
    have k := (abortWindow_counted h).state (p := .idle) (ProbeState.marks_of_none rfl)
    have dropped : ((abortWindow s).updProbe fun x => { x with state := .idle }).probe = (probeCancel r s).probe :=
      (((probeDrop_only s.probeZone _).mono (m := Part.besides [.probe]) rfl).trans
        ((raise_only _ .C (.probeCancelled s.probeZone r)).mono rfl)).same .probe (by decide)
    exact dropped ▸ k
  unfold probeRemoved
  split
  · split
    · exact h
    · exact h
    all_goals exact idle
  · exact h

theorem disableZone_probe (z : Zone) (h : s.probe.Counted) : (disableZone z s).probe.Counted := by
  have stopped : (disableStopped z s).probe.Counted := by
    have removed : (if (s.zone z).route.entries.any RouteEntry.isProbe then
        probeRemoved z .zoneDisabled (s.updRoute z fun r => { r with entries := [], fade := .atRest none })
        else s.updRoute z fun r => { r with entries := [], fade := .atRest none }).probe.Counted := by
      split
      · exact probeRemoved_counted z _ h
      · exact h
    have powered := (setPower_only z .disabled (if (s.zone z).route.entries.any RouteEntry.isProbe then
        probeRemoved z .zoneDisabled (s.updRoute z fun r => { r with entries := [], fade := .atRest none })
        else s.updRoute z fun r => { r with entries := [], fade := .atRest none })).same .probe (by decide)
    exact (powered ▸ removed : (setPower z .disabled _).probe.Counted)
  have rest : (disableStopped z s).probe = (disableZone z s).probe :=
    (((directWrite_only z .enable (fun r => { r with enabled := false }) (disableStopped z s)).mono
      (m := Part.besides [.probe]) rfl).trans ((disableZone_rest z s).mono rfl)).same .probe (by decide)
  exact rest ▸ stopped

set_option Elab.async true in
theorem probe_act (h : s.probe.Counted) (a : Act s t) : t.probe.Counted := by
  have frame : ∀ {l : List Part} {u : State}, Only l s u → Part.among l (Part.besides [.probe]) = true →
      u.probe.Counted := fun k hl => k.besides hl (p := .probe) (by decide) ▸ h
  cases a with
  | reset a =>
    cases a with
    | reset => exact reset_probe_counted
    | startUp => exact frame (startUp_only s) rfl
  | tick =>
    rw [(tick_rest s).2.2]
    exact h.tick
  | complete => exact frame (completeHand_only s) rfl
  | service a =>
    cases a with
    | enable => exact frame (enableZone_only ..) rfl
    | disable => exact disableZone_probe _ h
  | unit a =>
    cases a with
    | probe kept => exact kept.counted h
    | store | supervision => exact h
  | record a | power a | audio a | port a | set a | plain a => exact frame a.only rfl

theorem afterReset_store_counted {v : Vector Sector 41} (h : ∀ n : SectorNo, v[n].eraseCount ≤ 65535)
    {pending : List Instr} {temp : TempUnit} {kind : ResetKind} {n : Nat} {a : Vector Bool 32} :
    (afterReset pending v temp kind n a).store.Counted := by
  have sectors : (afterReset pending v temp kind n a).store.sectors = scan v := rfl
  have recalls : (afterReset pending v temp kind n a).store.recalls = [] := rfl
  refine ⟨fun m => ?_, ?_⟩
  · rw [sectors, scan_eraseCount]
    exact h m
  · rw [recalls]
    exact Nat.zero_le _

set_option Elab.async true in
theorem storeCounted_act (h : s.store.Counted) (a : Act s t) : t.store.Counted := by
  have frame : ∀ {l : List Part} {u : State}, Only l s u → Part.among l (Part.besides [.store]) = true →
      u.store.Counted := fun k hl => k.besides hl (p := .store) (by decide) ▸ h
  cases a with
  | reset a =>
    cases a with
    | reset => exact afterReset_store_counted h.1
    | startUp => rw [startUp_store]; exact h
  | tick => rw [tick_stored]; exact h.tick
  | complete => exact frame (completeHand_only s) rfl
  | unit a =>
    cases a with
    | store kept => exact kept.counted h
    | probe | supervision => exact h
  | service a | record a | power a | audio a | port a | set a | plain a => exact frame a.only rfl

theorem reset_supervision_counted : State.reset.supervision.Counted := ⟨by decide, nofun⟩

set_option Elab.async true in
theorem supervision_act (h : s.supervision.Counted) (a : Act s t) : t.supervision.Counted := by
  have frame : ∀ {l : List Part} {u : State}, Only l s u → Part.among l (Part.besides [.supervision]) = true →
      u.supervision.Counted := fun k hl => k.besides hl (p := .supervision) (by decide) ▸ h
  cases a with
  | reset a =>
    cases a with
    | reset => exact reset_supervision_counted
    | startUp => exact frame (startUp_only s) rfl
  | tick => rw [(tick_rest s).1]; exact h.tick
  | complete => exact frame (completeHand_only s) rfl
  | unit a =>
    cases a with
    | supervision counted => exact counted h
    | probe | store => exact h
  | service a | record a | power a | audio a | port a | set a | plain a => exact frame a.only rfl

/-! ### The invariant -/

/-- The counters by the units that hold them. -/
theorem counterInv_iff (s : State) : CounterInv s ↔ ZonesCounted s ∧ s.temp.Counted ∧ s.probe.Counted ∧
    s.store.Counted ∧ s.supervision.Counted ∧ ∀ p, (s.port p).link.buffer.length ≤ 2 := by
  constructor
  · rintro ⟨zones, sensors, poll, probe, run, store, supervision, buffers⟩
    exact ⟨fun z => ⟨(zones z).1, (zones z).2.1, (zones z).2.2⟩, ⟨sensors, poll⟩, ⟨probe, run⟩, store, supervision, buffers⟩
  · rintro ⟨zones, ⟨sensors, poll⟩, ⟨probe, run⟩, store, supervision, buffers⟩
    exact ⟨fun z => ⟨(zones z).frames, (zones z).clip, (zones z).mode⟩, sensors, poll, probe, run, store, supervision,
      buffers⟩

theorem ranges_act (h : RangeInv s ∧ NoteInv s ∧ CounterInv s) (a : Act s t) :
    RangeInv t ∧ NoteInv t ∧ CounterInv t := by
  obtain ⟨ranges, notes, counters⟩ := h
  obtain ⟨zones, temp, probe, store, supervision, buffers⟩ := (counterInv_iff s).mp counters
  obtain ⟨notes, buffers⟩ := (portsKept_iff t).mp (ports_act ((portsKept_iff s).mpr ⟨notes, buffers⟩) a)
  exact ⟨rangeInv_act ranges a, notes, (counterInv_iff t).mpr ⟨zonesCounted_act zones a, temp_act temp ranges a,
    probe_act probe a, storeCounted_act store a, supervision_act supervision a, buffers⟩⟩

/-- Settles O8: a value enters the part limited or checked, or from a store whose contents a reset checks, and every
counter stops at its limit. -/
theorem rangesKept : Obligations.RangesKept := kept_of_acts ranges_act

end Sys2Proof.Machine
end

section
/-! PROOFS. Every step keeps the route sets within their limits, in order and in line with the power states, and every
fade headed for its zone's winner (R111 to R126, R133, R134). -/

namespace Sys2Proof.Machine

-- One theorem at a time, and a long one, marked, on a thread of its own: the compile has 22 GiB. The two linters do
-- not see into such a proof.
set_option Elab.async false
set_option linter.unusedTactic false
set_option linter.unreachableTactic false

variable {s t : State} {l : List Part}

/-! ### Fade records (R121 to R126) -/

/-- A fade between two sources has p no greater than its length. -/
def Fade.Sound (f : Fade) : Prop :=
  ∀ out inc p n up, f = .fading out inc p n up → out ≠ inc ∧ p ≤ n ∧ 0 < n

theorem Fade.sound_atRest (r : Option Source) : (Fade.atRest r).Sound := fun _ _ _ _ _ e => by cases e

theorem Fade.sound_fading {out inc : Option Source} {p n : Nat} {up : Bool} :
    (Fade.fading out inc p n up).Sound ↔ out ≠ inc ∧ p ≤ n ∧ 0 < n :=
  ⟨fun h => h _ _ _ _ _ rfl, fun h _ _ _ _ _ e => by cases e; exact h⟩

set_option Elab.async true in
/-- A position scaled to a new length does not exceed it (R123). -/
theorem roundUp_scaled_le {p n old : Nat} (h : p ≤ old) (pos : 0 < old) : (roundUp (p * n) old).toNat ≤ n := by
  have le : (p : Int) * n ≤ old * n := mul_le_mul_of_nonneg_right (by exact_mod_cast h) (Int.natCast_nonneg n)
  have lt : (0 : Int) < 2 * old := by omega
  have key : roundUp (p * n) old < n + 1 := by
    rw [roundUp]
    refine Int.ediv_lt_of_lt_mul lt ?_
    linarith
  omega

set_option Elab.async true in
/-- A fade record told of a source rests on it, or fades toward it with p no greater than the new length. -/
theorem Fade.toward_cases (f : Fade) (src : Option Source) (n : Nat) : (f.toward src n).1 = .atRest src ∨
    ∃ out inc p up, (f.toward src n).1 = .fading out inc p n up ∧ (if up then inc else out) = src ∧
      (f.Sound → out ≠ inc ∧ p ≤ n ∧ 0 < n) := by
  cases f with
  | atRest rest =>
    unfold Fade.toward
    dsimp only
    split
    · next e => exact .inl (congrArg _ e.symm)
    · next e =>
      split
      · exact .inl rfl
      · next k => exact .inr ⟨_, _, _, _, rfl, rfl, fun _ => ⟨fun e' => e e'.symm, Nat.zero_le _, Nat.pos_of_ne_zero k⟩⟩
  | fading out inc p old up =>
    have scaled : (Fade.fading out inc p old up).Sound →
        (if n = old then p else (roundUp (p * n) old).toNat) ≤ n := fun h => by
      obtain ⟨-, le, pos⟩ := sound_fading.mp h
      split
      · next e => exact e ▸ le
      · exact roundUp_scaled_le le pos
    unfold Fade.toward
    dsimp only
    generalize (if n = old then p else (roundUp (p * n) old).toNat) = q at scaled ⊢
    split
    · next e =>
      have way : (if (if src = out then false else true) = true then inc else out) = src := by
        by_cases o : src = out
        · rw [if_pos o, if_neg Bool.false_ne_true, o]
        · rw [if_neg o, if_pos rfl, e.resolve_left o]
      generalize (if src = out then false else true) = u at way ⊢
      split
      · exact .inl rfl
      · next k =>
        exact .inr ⟨_, _, _, _, rfl, way, fun h =>
          ⟨(sound_fading.mp h).1, scaled h, Nat.pos_of_ne_zero fun e => k (Or.inl e)⟩⟩
    · next e =>
      split
      · exact .inl rfl
      · next k =>
        exact .inr ⟨_, _, _, _, rfl, rfl,
          fun _ => ⟨fun e' => e (.inl e'.symm), Nat.min_le_right .., Nat.pos_of_ne_zero fun e => k (.inl e)⟩⟩

theorem Fade.toward_head (f : Fade) (src : Option Source) (n : Nat) : (f.toward src n).1.head = src := by
  rcases f.toward_cases src n with e | ⟨out, inc, p, up, e, k, -⟩
  · rw [e]; rfl
  · rw [e]; exact k

theorem Fade.toward_sound {f : Fade} (h : f.Sound) (src : Option Source) (n : Nat) : (f.toward src n).1.Sound := by
  rcases f.toward_cases src n with e | ⟨out, inc, p, up, e, -, k⟩
  · exact e ▸ sound_atRest _
  · exact e ▸ sound_fading.mpr (k h)

theorem Fade.onWinner_head (f : Fade) (p : PowerState) (n : Nat) (w : Option RouteEntry) :
    (f.onWinner p n w).1.head = w.map (·.source) := by
  unfold Fade.onWinner
  split
  · exact toward_head ..
  · rfl

theorem Fade.onWinner_sound {f : Fade} (h : f.Sound) (p : PowerState) (n : Nat) (w : Option RouteEntry) :
    (f.onWinner p n w).1.Sound := by
  unfold Fade.onWinner
  split
  · exact toward_sound h _ _
  · exact sound_atRest _

/-- A zone that is not heard is left at rest (R126). -/
theorem Fade.onWinner_fading {f : Fade} {p : PowerState} {n : Nat} {w : Option RouteEntry} {out inc : Option Source}
    {q m : Nat} {up : Bool} (h : (f.onWinner p n w).1 = .fading out inc q m up) : p.heard = true := by
  unfold Fade.onWinner at h
  split at h
  · assumption
  · cases h

theorem Fade.finish_eq (f : Fade) : f.finish = .atRest f.head := by cases f <;> rfl

theorem Fade.finish_head (f : Fade) : f.finish.head = f.head := by cases f <;> rfl

theorem Fade.finish_sound (f : Fade) : f.finish.Sound := by cases f <;> exact sound_atRest _

theorem Fade.step_head (f : Fade) : f.step.head = f.head := by cases f <;> rfl

theorem Fade.fading_of_step {f : Fade} {out inc : Option Source} {p n : Nat} {up : Bool}
    (h : f.step = .fading out inc p n up) : ∃ q, f = .fading out inc q n up := by
  cases f with
  | atRest => cases h
  | fading => cases h; exact ⟨_, rfl⟩

theorem Fade.step_sound {f : Fade} (h : f.Sound) : f.step.Sound := by
  cases f with
  | atRest => exact h
  | fading out inc p n up =>
    obtain ⟨ne, le, pos⟩ := sound_fading.mp h
    refine sound_fading.mpr ⟨ne, ?_, pos⟩
    split
    · exact Nat.min_le_right ..
    · exact (Nat.sub_le ..).trans le

/-! ### What becomes of the routes -/

theorem gainZone_route (y z : Zone) (s : State) : ((gainZone z s).zone y).route.entries = (s.zone y).route.entries ∧
    ((gainZone z s).zone y).route.fade = (s.zone y).route.fade := by
  unfold gainZone
  dsimp only
  rw [← (updGain_only ..).same .route (by decide) y]
  split
  · rw [updRoute_route]
    split <;> exact ⟨rfl, rfl⟩
  · exact ⟨rfl, rfl⟩

set_option Elab.async true in
theorem sampleZone_route (x : Vector Sample 8) (p : Sample) (k : Nat) (y z : Zone) (s : State) :
    ((sampleZone x p k z s).zone y).route = (s.zone y).route ∨
      ((sampleZone x p k z s).zone y).route = { (s.zone y).route with fade := (s.zone y).route.fade.step } := by
  have stepped : ((s.updRoute z fun r => { r with fade := (s.zone z).route.fade.step }).zone y).route =
        (s.zone y).route ∨
      ((s.updRoute z fun r => { r with fade := (s.zone z).route.fade.step }).zone y).route =
        { (s.zone y).route with fade := (s.zone y).route.fade.step } := by
    rw [updRoute_route]
    split
    · next e => exact .inr (by rw [e])
    · exact .inl rfl
  unfold sampleZone
  split
  · dsimp only
    rw [← (scaleZone_only ..).same .route (by decide) y, ← (delayZone_only ..).same .route (by decide) y]
    unfold feedZone
    dsimp only
    split
    · rw [← (clipCount_only ..).same .route (by decide) y, ← (updEq_only ..).same .route (by decide) y]
      exact stepped
    · rw [← (updEq_only ..).same .route (by decide) y]
      exact stepped
  · exact .inl ((tdmOut_only ..).same .route (by decide) y).symm

theorem fadeRest_route (y z : Zone) (s : State) :
    ((fadeEndPower z (s.updRoute z fun r => { r with fade := r.fade.finish })).zone y).route =
      if y = z then { (s.zone y).route with fade := (s.zone y).route.fade.finish } else (s.zone y).route := by
  rw [← (fadeEndPower_only ..).same .route (by decide) y, updRoute_route]

theorem enableZone_route (y z : Zone) (s : State) : ((enableZone z s).zone y).route =
    if y = z then { (s.zone y).route with entries := [], fade := .atRest none } else (s.zone y).route := by
  unfold enableZone
  dsimp only
  rw [← (setPower_only ..).same .route (by decide) y, updRoute_route, ← (eqSetUp_only ..).same .route (by decide) y,
    ← (updLine_only ..).same .route (by decide) y, ← (clearLine_only ..).same .route (by decide) y,
    ← (directWrite_only ..).same .route (by decide) y]

theorem disableZone_route (y z : Zone) (s : State) : ((disableZone z s).zone y).route =
    if y = z then { (s.zone y).route with entries := [], fade := .atRest none } else (s.zone y).route := by
  have written := updRoute_route s y z fun r => { r with entries := [], fade := .atRest none }
  have empty : ((s.updRoute z fun r => { r with entries := [], fade := .atRest none }).zone z).route.entries = [] := by
    rw [updRoute_route, if_pos rfl]
  have removed := Only.ite ((s.zone z).route.entries.any RouteEntry.isProbe = true)
    (probeRemoved_empty .zoneDisabled empty) (.refl _ _)
  unfold disableZone
  dsimp only
  rw [← (raiseLost_only ..).same .route (by decide) y, ← (raiseLost_only ..).same .route (by decide) y,
    ← (updLine_only ..).same .route (by decide) y, ← (directWrite_only ..).same .route (by decide) y,
    ← (setPower_only ..).same .route (by decide) y, ← removed.same .route (by decide) y, written]

theorem tick_route (z : Zone) (s : State) : ((tick s).zone z).route = (s.zone z).route :=
  ((tick_only s).same .route (by decide) z).symm

theorem startUp_route (z : Zone) (s : State) : ((startUp s).zone z).route = (s.zone z).route :=
  ((startUp_only s).same .route (by decide) z).symm

theorem startUp_idle (z : Zone) (s : State) : (startUp s).powerOf z = .parked ∨ (startUp s).powerOf z = .disabled := by
  rw [startUp_powerOf]
  split
  · exact .inl rfl
  · exact .inr rfl

/-! ### Route sets (R111, R120, the table of Chapter 8) -/

/-- A zone's route set within its limits, in order, and in line with its power state. -/
structure ZoneState.Routed (x : ZoneState) : Prop where
  set : RouteSet x.route.entries
  fits : x.power.state.fits x.route.entries = true

theorem routeInv_iff : RouteInv s ↔
    (∀ z, (s.zone z).Routed) ∧ (s.starting = true → s.probe.state = .idle) ∧ Dormant s := by
  constructor
  · exact fun ⟨zones, start⟩ => ⟨fun z => ⟨⟨(zones z).1, (zones z).2.1, (zones z).2.2.1⟩, (zones z).2.2.2⟩,
      fun h => (start h).1, fun h => (start h).2⟩
  · exact fun ⟨zones, idle, dormant⟩ => ⟨fun z => ⟨(zones z).set.length, (zones z).set.within, (zones z).set.order,
      (zones z).fits⟩, fun h => ⟨idle h, dormant h⟩⟩

theorem ZoneState.Routed.congr {y : Zone} (h : (s.zone y).Routed)
    (entries : (t.zone y).route.entries = (s.zone y).route.entries)
    (fits : (s.powerOf y).fits (s.zone y).route.entries = true → (t.powerOf y).fits (s.zone y).route.entries = true) :
    (t.zone y).Routed :=
  ⟨entries ▸ h.set, by rw [entries]; exact fits h.fits⟩

theorem RouteSet.nil : RouteSet [] := ⟨Nat.zero_le _, fun _ h => absurd h List.not_mem_nil, .nil⟩

theorem PowerState.tick_fits (p : PowerState) (r : List RouteEntry) : p.tick.fits r = p.fits r := by cases p <;> rfl

theorem PowerState.fits_congr (p : PowerState) {r q : List RouteEntry} (h : r.head? = q.head?) : p.fits r = p.fits q := by
  have empty : r.isEmpty = q.isEmpty := by
    rw [Bool.eq_iff_iff, List.isEmpty_iff, List.isEmpty_iff, ← List.head?_eq_none_iff, h, List.head?_eq_none_iff]
  cases p <;> simp only [fits, empty]

/-- The power state a winner notice leaves fits the new set (R133). -/
theorem PowerState.onWinner_fits {p : PowerState} {n : Nat} {r q : List RouteEntry} (h : p.fits r = true)
    (off : p = .disabled → q = []) : (p.onWinner n r.head? q.head?).fits q = true := by
  cases p with
  | disabled => rw [off rfl]; cases r <;> rfl
  | live => cases r <;> cases q <;> rfl
  | _ => cases r <;> cases q <;> first | rfl | cases h

/-- The power state after a new set fits it (R133, R134). -/
theorem State.routed_fits {z : Zone} {r : List RouteEntry} (h : (s.powerOf z).fits (s.zone z).route.entries = true)
    (off : s.powerOf z = .disabled → r = []) : (s.routed z r).fits r = true := by
  unfold State.routed
  split
  · next e => rwa [← PowerState.fits_congr _ (r := (s.zone z).route.entries) e]
  · split
    · next e => rw [e.2.2.2]; rfl
    · exact PowerState.onWinner_fits h off

theorem setRoutes_routed {y z : Zone} {r : List RouteEntry} (h : ∀ z, (s.zone z).Routed) (sound : RoutesSound s z r) :
    ((setRoutes z r s).zone y).Routed := by
  have route := setRoutes_route z y r s
  have power : ((setRoutes z r s).zone y).power.state = if y = z then s.routed z r else s.powerOf y :=
    powerOf_setRoutes z y r s
  split at route
  · next e =>
    have empty : s.powerOf z = .disabled → (s.zone z).route.entries = [] := fun d => by
      have k := (h z).fits
      rw [← State.powerOf, d] at k
      exact List.isEmpty_iff.mp k
    rw [if_pos e] at power
    exact ⟨by rw [route]; exact sound.set (h z).set, by
      rw [route, power]
      exact State.routed_fits (h z).fits fun d => sound.disabled d (empty d)⟩
  · next e =>
    rw [if_neg e] at power
    exact (h y).congr (by rw [route]) (by rw [State.powerOf, State.powerOf, power]; exact id)

/-- A change of one zone's power state alone, to one that fits its set. -/
theorem routed_of_power {y z : Zone} {p : PowerState} (h : (s.zone y).Routed) (k : Only l s t)
    (hl : Part.among l (Part.besides [.route]) = true) (power : t.powerOf y = if y = z then p else s.powerOf y)
    (fits : ∀ r, (s.powerOf z).fits r = true → p.fits r = true) : (t.zone y).Routed := by
  refine h.congr (congrArg RouteState.entries (k.besides hl (p := .route) (by decide) y).symm) ?_
  rw [power]
  split
  · next e => exact e ▸ fits _
  · exact id

theorem PowerAct.routed (h : ∀ z, (s.zone z).Routed) (a : PowerAct s t) (y : Zone) : (t.zone y).Routed := by
  cases a with
  | routes sound => exact setRoutes_routed h sound
  | fadeRest z =>
    have route := fadeRest_route y z s
    have power := fadeRest_powerOf z y s
    refine (h y).congr (by rw [route]; split <;> rfl) ?_
    rw [power]
    split
    · next e => rw [e.1, e.2.2.2]; exact fun _ => rfl
    · exact id
  | wake w => exact routed_of_power (h y) (setPower_only ..) rfl (powerOf_setPower ..) fun _ _ => rfl
  | park w => exact routed_of_power (h y) (setPower_only ..) rfl (powerOf_setPower ..) (by rw [w]; exact fun _ => id)
  | grant w =>
    refine routed_of_power (h y) (grant_only ..) rfl (powerOf_grant ..) fun _ k => ?_
    rw [w] at k
    split
    · rfl
    · exact k
  | crossfadeEnd z =>
    have k := crossfadeFinish_only z s
    exact (h y).congr (by rw [k.same .route (by decide) y]) (by rw [k.powerOf (by decide)]; exact id)

set_option Elab.async true in
theorem routes_act (h : ∀ z, (s.zone z).Routed) (dormant : Dormant s) (a : Act s t) (y : Zone) : (t.zone y).Routed := by
  have frame : ∀ {l : List Part} {u : State}, Only l s u → Part.among l (Part.besides [.route, .power]) = true →
      (u.zone y).Routed := fun k hl =>
    (h y).congr (by rw [k.besides hl (p := .route) (by decide) y])
      (by rw [State.powerOf, State.powerOf, k.besides hl (p := .power) (by decide) y]; exact id)
  cases a with
  | reset a =>
    cases a with
    | reset => rw [afterReset_zone]; exact ⟨.nil, rfl⟩
    | startUp starting =>
      have empty : (s.zone y).route.entries = [] := by
        have k := (h y).fits
        rw [← State.powerOf, dormant starting y] at k
        exact List.isEmpty_iff.mp k
      refine (h y).congr (congrArg _ (startUp_route y s)) ?_
      rw [empty]
      rcases startUp_idle y s with e | e <;> rw [e] <;> exact fun _ => rfl
  | tick =>
    refine (h y).congr (congrArg _ (tick_route y s)) ?_
    rcases powerOf_tick y s with e | e
    · rw [e]; exact id
    · rw [e, PowerState.tick_fits]; exact id
  | complete => exact frame (completeHand_only s) rfl
  | service a =>
    cases a with
    | @enable z =>
      have route := enableZone_route y z s
      have power : ((enableZone z s).zone y).power.state = if y = z then .parked else s.powerOf y :=
        powerOf_enableZone z y s
      split at route
      · next e => exact ⟨by rw [route]; exact .nil, by rw [route, power, if_pos e]; rfl⟩
      · next e => exact (h y).congr (by rw [route]) (by rw [State.powerOf, State.powerOf, power, if_neg e]; exact id)
    | @disable z =>
      have route := disableZone_route y z s
      have power : ((disableZone z s).zone y).power.state = if y = z then .disabled else s.powerOf y :=
        powerOf_disableZone z y s
      split at route
      · next e => exact ⟨by rw [route]; exact .nil, by rw [route, power, if_pos e]; rfl⟩
      · next e => exact (h y).congr (by rw [route]) (by rw [State.powerOf, State.powerOf, power, if_neg e]; exact id)
  | power a => exact a.routed h y
  | audio a =>
    cases a with
    | slew => exact frame (slewZone_only ..) rfl
    | gain z =>
      exact (h y).congr (gainZone_route y z s).1 (by rw [(gainZone_only z s).powerOf (by decide)]; exact id)
    | sample x p k z =>
      refine (h y).congr ?_ (by rw [(sampleZone_only x p k z s).powerOf (by decide)]; exact id)
      rcases sampleZone_route x p k y z s with e | e <;> rw [e]
    | clip => exact frame (updGain_only ..) rfl
  | record a | port a | unit a | set a | plain a => exact frame a.only rfl

theorem Only.starting (k : Only l s t) (hl : Part.store ∉ l) : t.starting = s.starting := by
  rw [State.starting, State.starting, k.same .store hl]

set_option Elab.async true in
/-- The probe stays IDLE during start-up (R160). -/
theorem probeIdle_act (h : s.starting = true → s.probe.state = .idle) (dormant : Dormant s) (a : Act s t)
    (starting : t.starting = true) : t.probe.state = .idle := by
  have frame : ∀ {l : List Part} {u : State}, Only l s u → Part.among l (Part.besides [.probe, .store]) = true →
      u.starting = true → u.probe.state = .idle := fun k hl e => by
    rw [State.starting, ← k.besides hl (p := .store) (by decide)] at e
    rw [← k.besides hl (p := .probe) (by decide)]
    exact h e
  cases a with
  | reset a =>
    cases a with
    | reset => rfl
    | startUp =>
      rw [starting_iff, startUp_store] at starting
      cases starting
  | tick =>
    rw [(tick_rest s).2.2]
    rw [starting_iff, tick_store, ← starting_iff] at starting
    simp only [ProbeUnit.tick, h starting, ProbeState.run]
  | complete => exact frame (completeHand_only s) rfl starting
  | service a =>
    have k := a.only.starting (by decide)
    cases a with
    | enable running => rw [k, running] at starting; cases starting
    | disable running => rw [k, running] at starting; cases starting
  | unit a =>
    cases a with
    | probe kept => exact kept.idle starting (dormant starting) (h starting)
    | store kept => exact h (starting_iff.mpr (kept.starting.mp (starting_iff.mp starting)))
    | supervision => exact h starting
  | record a | power a | audio a | port a | set a | plain a => exact frame a.only rfl starting

theorem routeInv_act (h : RouteInv s) (a : Act s t) : RouteInv t := by
  obtain ⟨zones, idle, dormant⟩ := routeInv_iff.mp h
  exact routeInv_iff.mpr ⟨routes_act zones dormant a, probeIdle_act idle dormant a, dormant_act dormant a⟩

/-- Settles O11: each act keeps every route set within its limits, in order and fitting its zone's power state, and
start-up finds every zone DISABLED and the probe IDLE. -/
theorem routesKept : Obligations.RoutesKept := kept_of_acts routeInv_act

/-! ### Fades and winners (R121 to R126) -/

/-- A zone's fade record headed for its winner, FADING in LIVE alone, and no entry in DRAINING. -/
structure ZoneState.Faded (x : ZoneState) : Prop where
  head : x.route.fade.head = x.route.winner.map (·.source)
  sound : x.route.fade.Sound
  live : ∀ out inc p n up, x.route.fade = .fading out inc p n up → x.power.state = .live
  draining : ∀ d n, x.power.state = .draining d n → x.route.entries = []

theorem fadeInv_iff : FadeInv s ↔ (∀ z, (s.zone z).Faded) ∧ Dormant s := by
  constructor
  · exact fun h => ⟨fun z => ⟨(h z).1, fun out inc p n up e => ((h z).2.1 out inc p n up e).2,
      fun out inc p n up e => ((h z).2.1 out inc p n up e).1, (h z).2.2.1⟩, fun e z => (h z).2.2.2 e⟩
  · exact fun ⟨zones, dormant⟩ z => ⟨(zones z).head,
      fun out inc p n up e => ⟨(zones z).live out inc p n up e, (zones z).sound out inc p n up e⟩,
      (zones z).draining, fun e => dormant e z⟩

/-- A zone's routes alone, and its power state but for what a fade and a drain require of it. -/
theorem ZoneState.Faded.congr {x y : ZoneState} (h : x.Faded) (route : y.route = x.route)
    (live : x.power.state = .live → y.power.state = .live)
    (draining : ∀ d n, y.power.state = .draining d n → ∃ d n, x.power.state = .draining d n) : y.Faded := by
  refine ⟨route ▸ h.head, route ▸ h.sound, fun out inc p n up e => ?_, fun d n e => ?_⟩
  · exact live (h.live out inc p n up (route ▸ e))
  · obtain ⟨d, n, k⟩ := draining d n e
    exact route ▸ h.draining d n k

/-- A zone at rest on its winner's source, and not DRAINING, or with no entry. -/
theorem ZoneState.faded_of_rest {x : ZoneState} (head : x.route.fade.head = x.route.winner.map (·.source))
    {r : Option Source} (rest : x.route.fade = .atRest r)
    (draining : ∀ d n, x.power.state = .draining d n → x.route.entries = []) : x.Faded :=
  ⟨head, rest ▸ Fade.sound_atRest r, fun _ _ _ _ _ e => by (rw [rest] at e; cases e), draining⟩

theorem PowerState.onWinner_draining {p : PowerState} {m d n : Nat} {r q : List RouteEntry}
    (h : p.onWinner m r.head? q.head? = .draining d n) (ne : r.head? ≠ q.head?)
    (empty : ∀ d n, p = .draining d n → r = []) : q = [] := by
  cases q with
  | nil => rfl
  | cons b q =>
    cases p with
    | draining d' n' =>
      rw [empty _ _ rfl] at h
      cases h
    | _ => cases r <;> cases h

theorem State.routed_draining {z : Zone} {q : List RouteEntry} {d n : Nat} (h : s.routed z q = .draining d n)
    (empty : ∀ d n, s.powerOf z = .draining d n → (s.zone z).route.entries = []) : q = [] := by
  unfold State.routed at h
  split at h
  · next e =>
    have head : (s.zone z).route.entries.head? = q.head? := e
    rw [empty d n h] at head
    exact List.head?_eq_none_iff.mp head.symm
  · next e =>
    split at h
    · next k => exact k.2.2.2
    · exact PowerState.onWinner_draining h e empty

/-- A zone that fades after a new set is LIVE (R125, R133, R134). -/
theorem State.routed_live {z : Zone} {q : List RouteEntry} {out inc : Option Source} {p n : Nat} {up : Bool}
    (ne : s.winner z ≠ q.head?) (fading : (s.turned z q).1 = .fading out inc p n up)
    (empty : ∀ d n, s.powerOf z = .draining d n → (s.zone z).route.entries = []) : s.routed z q = .live := by
  have heard := Fade.onWinner_fading fading
  unfold State.routed
  rw [if_neg ne]
  split
  · next k => rw [k.2.2.1] at fading; cases fading
  · cases e : s.powerOf z with
    | live => cases s.winner z <;> cases q <;> rfl
    | draining d m =>
      have none : s.winner z = none := by rw [State.winner, RouteState.winner, empty d m e]; rfl
      rw [none] at ne ⊢
      cases q with
      | nil => exact absurd rfl ne
      | cons => rfl
    | _ => rw [e] at heard; cases heard

set_option Elab.async true in
theorem setRoutes_faded {y z : Zone} {q : List RouteEntry} (h : ∀ z, (s.zone z).Faded) :
    ((setRoutes z q s).zone y).Faded := by
  have route := setRoutes_route z y q s
  have power : ((setRoutes z q s).zone y).power.state = if y = z then s.routed z q else s.powerOf y :=
    powerOf_setRoutes z y q s
  split at route
  · next e =>
    rw [if_pos e] at power
    have draining : ∀ d n, s.routed z q = .draining d n → q = [] := fun d n k =>
      State.routed_draining k (h z).draining
    split at route
    · next w =>
      have same : s.routed z q = s.powerOf z := if_pos w
      refine ⟨?_, ?_, fun out inc p n up k => ?_, fun d n k => ?_⟩
      · rw [route, RouteState.winner, ← w]; exact (h z).head
      · rw [route]; exact (h z).sound
      · rw [power, same]
        rw [route] at k
        exact (h z).live out inc p n up k
      · rw [route]
        rw [power] at k
        exact draining d n k
    · next w =>
      refine ⟨?_, ?_, fun out inc p n up k => ?_, fun d n k => ?_⟩
      · rw [route]; exact Fade.onWinner_head ..
      · rw [route]; exact Fade.onWinner_sound (h z).sound _ _ _
      · rw [power]
        rw [route] at k
        exact State.routed_live w k (h z).draining
      · rw [route]
        rw [power] at k
        exact draining d n k
  · next e =>
    rw [if_neg e] at power
    exact (h y).congr route (fun k => power.trans k) fun d n k => ⟨d, n, power.symm.trans k⟩

/-- A change of one zone's power state alone, neither of a LIVE zone nor to DRAINING. -/
theorem faded_of_power {y z : Zone} {p : PowerState} (h : (s.zone y).Faded) (k : Only l s t)
    (hl : Part.among l (Part.besides [.route]) = true) (power : t.powerOf y = if y = z then p else s.powerOf y)
    (live : s.powerOf z ≠ .live) (draining : ∀ d n, p ≠ .draining d n) : (t.zone y).Faded := by
  have w : (t.zone y).power.state = if y = z then p else s.powerOf y := power
  refine h.congr (k.besides hl (p := .route) (by decide) y).symm (fun e => ?_) fun d n e => ?_
  · rw [w]
    split
    · next i => exact absurd (i ▸ e) live
    · exact e
  · rw [w] at e
    split at e
    · exact absurd e (draining d n)
    · exact ⟨d, n, e⟩

set_option Elab.async true in
theorem PowerAct.faded (h : ∀ z, (s.zone z).Faded) (a : PowerAct s t) (y : Zone) : (t.zone y).Faded := by
  cases a with
  | routes => exact setRoutes_faded h
  | fadeRest z =>
    have route := fadeRest_route y z s
    have power : _ = if y = z ∧ _ then _ else s.powerOf y := fadeRest_powerOf z y s
    split at route
    · next e =>
      refine ZoneState.faded_of_rest (r := (s.zone y).route.fade.head) ?_ ?_ fun d n k => ?_
      · rw [route]; exact (Fade.finish_head _).trans (h y).head
      · rw [route]; exact (s.zone y).route.fade.finish_eq
      · rw [route]
        rw [← State.powerOf, power] at k
        split at k
        · next c => rw [e]; exact c.2.2.2
        · exact (h y).draining d n k
    · next e =>
      rw [if_neg fun c => e c.1] at power
      exact (h y).congr route (fun k => power.trans k) fun d n k => ⟨d, n, power.symm.trans k⟩
  | wake w => exact faded_of_power (h y) (setPower_only ..) rfl (powerOf_setPower ..) (by rw [w]; nofun) nofun
  | park w => exact faded_of_power (h y) (setPower_only ..) rfl (powerOf_setPower ..) (by rw [w]; nofun) nofun
  | grant w =>
    refine faded_of_power (h y) (grant_only ..) rfl (powerOf_grant ..) (by rw [w]; nofun) fun d n e => ?_
    split at e <;> cases e
  | crossfadeEnd z =>
    have k := crossfadeFinish_only z s
    have power := k.same .power (by decide) y
    exact (h y).congr (k.same .route (by decide) y).symm (by rw [power]; exact id) (by rw [power]; exact fun d n e => ⟨d, n, e⟩)

/-- A zone taken into service or out of it has an empty set and is at rest on silence. -/
theorem serviced_faded {y z : Zone} {p : PowerState} (h : (s.zone y).Faded)
    (route : (t.zone y).route =
      if y = z then { (s.zone y).route with entries := [], fade := .atRest none } else (s.zone y).route)
    (power : (t.zone y).power.state = if y = z then p else s.powerOf y) (rest : ∀ d n, p ≠ .draining d n) :
    (t.zone y).Faded := by
  split at route
  · next e =>
    rw [if_pos e] at power
    exact ZoneState.faded_of_rest (by rw [route]; rfl) (by rw [route]) fun d n k => absurd (power.symm.trans k) (rest d n)
  · next e =>
    rw [if_neg e] at power
    exact h.congr route (fun k => power.trans k) fun d n k => ⟨d, n, power.symm.trans k⟩

set_option Elab.async true in
theorem faded_act (h : ∀ z, (s.zone z).Faded) (dormant : Dormant s) (a : Act s t) (y : Zone) : (t.zone y).Faded := by
  have frame : ∀ {l : List Part} {u : State}, Only l s u → Part.among l (Part.besides [.route, .power]) = true →
      (u.zone y).Faded := fun k hl => by
    have power := k.besides hl (p := .power) (by decide) y
    exact (h y).congr (k.besides hl (p := .route) (by decide) y).symm (by rw [power]; exact id)
      (by rw [power]; exact fun d n e => ⟨d, n, e⟩)
  cases a with
  | reset a =>
    cases a with
    | reset => rw [afterReset_zone]; exact ZoneState.faded_of_rest rfl rfl fun _ _ e => by cases e
    | startUp starting =>
      have off : (s.zone y).power.state = .disabled := dormant starting y
      refine (h y).congr (startUp_route y s) (fun e => by rw [off] at e; cases e) fun d n e => ?_
      rw [← State.powerOf] at e
      rcases startUp_idle y s with k | k <;> rw [k] at e <;> cases e
  | tick =>
    refine (h y).congr (tick_route y s) (fun e => ?_) fun d n e => ?_
    · rw [← State.powerOf] at e ⊢
      rcases powerOf_tick y s with k | k <;> rw [k, e]
      rfl
    · rw [← State.powerOf] at e ⊢
      rcases powerOf_tick y s with k | k
      · exact ⟨d, n, k.symm.trans e⟩
      · rw [k] at e
        cases w : s.powerOf y with
        | draining d n => exact ⟨d, n, rfl⟩
        | _ => rw [w] at e; cases e
  | complete => exact frame (completeHand_only s) rfl
  | service a =>
    cases a with
    | @enable z =>
      have route := enableZone_route y z s
      have power : ((enableZone z s).zone y).power.state = if y = z then .parked else s.powerOf y :=
        powerOf_enableZone z y s
      exact serviced_faded (h y) route power nofun
    | @disable z =>
      have route := disableZone_route y z s
      have power : ((disableZone z s).zone y).power.state = if y = z then .disabled else s.powerOf y :=
        powerOf_disableZone z y s
      exact serviced_faded (h y) route power nofun
  | power a => exact a.faded h y
  | audio a =>
    cases a with
    | slew => exact frame (slewZone_only ..) rfl
    | gain z =>
      obtain ⟨entries, fade⟩ := gainZone_route y z s
      have power := (gainZone_only z s).same .power (by decide) y
      exact ⟨by rw [fade, RouteState.winner, entries]; exact (h y).head, by rw [fade]; exact (h y).sound,
        by rw [fade, ← power]; exact (h y).live, by rw [entries, ← power]; exact (h y).draining⟩
    | sample x p k z =>
      have power := (sampleZone_only x p k z s).same .power (by decide) y
      rcases sampleZone_route x p k y z s with e | e
      · exact (h y).congr e (by rw [power]; exact id) (by rw [power]; exact fun d n e => ⟨d, n, e⟩)
      · refine ⟨by rw [e]; exact (Fade.step_head _).trans (h y).head, by rw [e]; exact Fade.step_sound (h y).sound,
          fun out inc q n up w => ?_, by rw [e, ← power]; exact (h y).draining⟩
        rw [e] at w
        obtain ⟨q', w'⟩ := Fade.fading_of_step w
        rw [← power]
        exact (h y).live _ _ _ _ _ w'
    | clip => exact frame (updGain_only ..) rfl
  | record a | port a | unit a | set a | plain a => exact frame a.only rfl

theorem fadeInv_act (h : FadeInv s) (a : Act s t) : FadeInv t := by
  obtain ⟨zones, dormant⟩ := fadeInv_iff.mp h
  exact fadeInv_iff.mpr ⟨faded_act zones dormant a, dormant_act dormant a⟩

/-- Settles O12: each act keeps every fade record headed for its zone's winner, and a zone FADING in LIVE alone. -/
theorem fadesKept : Obligations.FadesKept := kept_of_acts fadeInv_act

end Sys2Proof.Machine
end

section
/-! PROOFS. Every step keeps the crossfade slots and the EQ wait list (R94, R98 to R102). -/

namespace Sys2Proof.Machine

-- One theorem at a time, and a long one, marked, on a thread of its own: the compile has 22 GiB. The two linters do
-- not see into such a proof.
set_option Elab.async false
set_option linter.unusedTactic false
set_option linter.unreachableTactic false

variable {s t : State} {l : List Part}

/-! ### The places of the zones -/

/-- Where a zone stands between its bank changes: STEADY, in the wait list, or in a crossfade slot. -/
inductive EqSpot where
  | steady
  | wait
  | slot (k : Fin 4)

def EqMode.spot : EqMode → EqSpot
  | .steady => .steady
  | .wait => .wait
  | .xfade _ _ k _ => .slot k

def State.spot (s : State) (z : Zone) : EqSpot := (s.zone z).eq.mode.spot

theorem EqMode.spot_steady {m : EqMode} : m.spot = .steady ↔ m = .steady := by
  cases m <;> simp only [spot, reduceCtorEq]

theorem EqMode.spot_wait {m : EqMode} : m.spot = .wait ↔ m = .wait := by
  cases m <;> simp only [spot, reduceCtorEq]

theorem EqState.slot_some {e : EqState} {k : Fin 4} : e.slot = some k ↔ e.mode.spot = .slot k := by
  unfold slot
  cases e.mode <;> simp only [EqMode.spot, reduceCtorEq, Option.some.injEq, EqSpot.slot.injEq]

/-- The wait list holds each waiting zone once, and no slot is held twice (R94, R98). -/
structure Placed (m : Zone → EqSpot) (w : List Zone) : Prop where
  wait : ∀ z, m z = .wait ↔ z ∈ w
  once : w.Nodup
  slots : ∀ y z k, m y = .slot k → m z = .slot k → y = z

/-- A zone waits only while every slot is held (R99). -/
def Full (m : Zone → EqSpot) (w : List Zone) : Prop := w ≠ [] → ∀ k, ∃ z, m z = .slot k

/-- A zone that takes a new place, the others keeping theirs. -/
theorem Placed.put {m : Zone → EqSpot} {w v : List Zone} (h : Placed m w) {z : Zone} {x : EqSpot}
    (rest : ∀ y, y ≠ z → (y ∈ v ↔ y ∈ w)) (own : x = .wait ↔ z ∈ v) (once : v.Nodup)
    (free : ∀ k, x = .slot k → ∀ y, m y ≠ .slot k) : Placed (Function.update m z x) v := by
  refine ⟨fun y => ?_, once, fun a b k ha hb => ?_⟩
  · by_cases e : y = z
    · rw [e, Function.update_self]; exact own
    · rw [Function.update_of_ne e, h.wait, rest y e]
  · by_cases ea : a = z <;> by_cases eb : b = z
    · rw [ea, eb]
    · rw [ea, Function.update_self] at ha
      rw [Function.update_of_ne eb] at hb
      exact absurd hb (free k ha b)
    · rw [eb, Function.update_self] at hb
      rw [Function.update_of_ne ea] at ha
      exact absurd ha (free k hb a)
    · rw [Function.update_of_ne ea] at ha
      rw [Function.update_of_ne eb] at hb
      exact h.slots a b k ha hb

set_option Elab.async true in
theorem freeSlot_none : s.freeSlot = none ↔ ∀ k, ∃ z, s.spot z = .slot k := by
  simp only [State.freeSlot, State.slotHolder, List.find?_eq_none, List.mem_finRange, forall_const, Option.isNone_iff_eq_none,
    decide_eq_true_eq, EqState.slot_some, mem_allZones, not_forall, not_not, State.spot]

theorem freeSlot_some {k : Fin 4} (h : s.freeSlot = some k) (z : Zone) : s.spot z ≠ .slot k := by
  have free := List.find?_some h
  simp only [State.slotHolder, Option.isNone_iff_eq_none, List.find?_eq_none, mem_allZones, forall_const,
    decide_eq_true_eq, EqState.slot_some] at free
  exact free z

theorem spot_updEq (z : Zone) (f : EqState → EqState) (s : State) :
    (s.updEq z f).spot = Function.update s.spot z (f (s.zone z).eq).mode.spot := by
  funext y
  rw [State.spot, updEq_eq]
  split
  · next e => rw [e, Function.update_self]
  · next e => rw [Function.update_of_ne e, State.spot]

/-! ### The places in a state -/

/-- The wait list and the slots, and a zone that is not heard STEADY: the invariant less its clause of start-up. -/
structure EqHeld (s : State) : Prop where
  placed : Placed s.spot s.eqWait
  full : Full s.spot s.eqWait
  quiet : ∀ z, (s.powerOf z).heard = false → s.spot z = .steady

theorem eqInv_iff : EqInv s ↔ EqHeld s ∧ Dormant s := by
  simp only [EqInv, ← EqMode.spot_wait, ← EqMode.spot_steady, EqState.slot_some, freeSlot_none]
  exact ⟨fun h => ⟨⟨⟨h.1, h.2.1, h.2.2.1⟩, h.2.2.2.2.1, h.2.2.2.1⟩, h.2.2.2.2.2⟩,
    fun h => ⟨h.1.placed.wait, h.1.placed.once, h.1.placed.slots, h.1.quiet, h.1.full, h.2⟩⟩

theorem EqHeld.same (h : EqHeld s) (spot : t.spot = s.spot) (wait : t.eqWait = s.eqWait)
    (heard : ∀ z, (t.powerOf z).heard = false → (s.powerOf z).heard = false) : EqHeld t :=
  ⟨by rw [spot, wait]; exact h.placed, by rw [spot, wait]; exact h.full,
    fun z k => by rw [spot]; exact h.quiet z (heard z k)⟩

theorem Only.spot (k : Only l s t) (hl : Part.eq ∉ l) : t.spot = s.spot :=
  funext fun z => congrArg (fun e : EqState => e.mode.spot) (k.same .eq hl z).symm

theorem Only.held (k : Only l s t) (hl : Part.among l (Part.besides [.eq, .eqWait, .power]) = true) (h : EqHeld s) :
    EqHeld t :=
  h.same (funext fun z => congrArg (fun e : EqState => e.mode.spot) (k.besides hl (p := .eq) (by decide) z).symm)
    (k.besides hl (p := .eqWait) (by decide)).symm
    fun z e => by rwa [State.powerOf, ← k.besides hl (p := .power) (by decide) z] at e

theorem Only.held_heard (k : Only l s t) (hl : Part.among l (Part.besides [.eq, .eqWait]) = true)
    (heard : ∀ z, (t.powerOf z).heard = (s.powerOf z).heard) (h : EqHeld s) : EqHeld t :=
  h.same (funext fun z => congrArg (fun e : EqState => e.mode.spot) (k.besides hl (p := .eq) (by decide) z).symm)
    (k.besides hl (p := .eqWait) (by decide)).symm fun z e => (heard z).symm.trans e

/-- The zones that are STEADY, but for one, stay so. -/
def Calm (s t : State) (z : Option Zone) : Prop := ∀ y, some y ≠ z → s.spot y = .steady → t.spot y = .steady

/-- What a unit of the EQ leaves: the zones placed, none waiting at a free slot, and the STEADY ones but for one STEADY. -/
structure Regular (s t : State) (z : Option Zone) : Prop where
  placed : Placed t.spot t.eqWait
  full : Full t.spot t.eqWait
  calm : Calm s t z

theorem Regular.held {z : Zone} (k : Regular s t (some z)) (power : ∀ y, t.powerOf y = s.powerOf y)
    (h : ∀ y, y ≠ z → (s.powerOf y).heard = false → s.spot y = .steady)
    (own : (s.powerOf z).heard = false → t.spot z = .steady) : EqHeld t := by
  refine ⟨k.placed, k.full, fun y q => ?_⟩
  rw [power] at q
  by_cases e : y = z
  · exact e ▸ own (e ▸ q)
  · exact k.calm y (fun e' => e (Option.some.inj e')) (h y e q)

/-! ### Grants (R99) -/

/-- A grant to the oldest waiting zone: STEADY again, or into a free slot. -/
theorem granted_regular {z : Zone} {rest : List Zone} {f : EqState → EqState} (h : Placed s.spot s.eqWait)
    (list : s.eqWait = z :: rest) (own : (f (s.zone z).eq).mode.spot ≠ .wait)
    (free : ∀ k, (f (s.zone z).eq).mode.spot = .slot k → ∀ y, s.spot y ≠ .slot k) :
    Placed (({ s with eqWait := rest } : State).updEq z f).spot rest ∧
      Calm s (({ s with eqWait := rest } : State).updEq z f) none := by
  rw [list] at h
  obtain ⟨notIn, once⟩ := List.nodup_cons.mp h.once
  rw [Calm, spot_updEq]
  refine ⟨h.put (fun y e => ?_) ⟨fun e => absurd e own, fun e => absurd e notIn⟩ once free, fun y _ e => ?_⟩
  · rw [List.mem_cons, or_iff_right e]
  · have ne : y ≠ z := fun k => by
      rw [k, (h.wait z).mpr List.mem_cons_self] at e
      cases e
    rw [Function.update_of_ne ne]
    exact e

theorem grantLoop_regular (l : List Zone) : ∀ s : State, s.eqWait = l → Placed s.spot s.eqWait →
    Regular s (grantLoop l s) none := by
  induction l with
  | nil => exact fun s list h => ⟨h, fun k => absurd list k, fun _ _ e => e⟩
  | cons z rest ih =>
    intro s list h
    unfold grantLoop
    split
    · next e => exact ⟨h, fun _ => freeSlot_none.mp e, fun _ _ e => e⟩
    · next k e =>
      dsimp only
      split
      · have g := granted_regular (f := fun x => { x with mode := .steady }) h list nofun nofun
        have r := ih _ rfl g.1
        exact ⟨r.placed, r.full, fun y n q => r.calm y n (g.2 y n q)⟩
      · have g := granted_regular (f := fun x => { x with mode := .xfade (Cascade.setUp (s.active z)) 0 k false }) h list nofun
          fun j ej => by cases ej; exact freeSlot_some e
        have r := ih _ rfl g.1
        exact ⟨r.placed, r.full, fun y n q => r.calm y n (g.2 y n q)⟩

theorem eqGrant_regular (h : Placed s.spot s.eqWait) : Regular s (eqGrant s) none := grantLoop_regular _ s rfl h

/-- A STEADY zone joins the wait list (R97, R101). -/
theorem eqJoin_regular {z : Zone} (h : Placed s.spot s.eqWait) (steady : s.spot z = .steady) :
    Regular s (eqJoin z s) (some z) := by
  have notIn : z ∉ s.eqWait := fun e => by
    rw [(h.wait z).mpr e] at steady
    cases steady
  have spot := spot_updEq z (fun e => { e with mode := .wait }) s
  have placed : Placed (s.updEq z fun e => { e with mode := .wait }).spot (s.eqWait ++ [z]) := by
    rw [spot]
    refine h.put (fun y e => by simp [e]) (by simp [EqMode.spot]) ?_ nofun
    exact List.nodup_append.mpr ⟨h.once, List.nodup_singleton z, fun a ha b hb e => notIn (List.mem_singleton.mp hb ▸ e ▸ ha)⟩
  obtain ⟨p, f, calm⟩ := eqGrant_regular
    (s := { s.updEq z (fun e => { e with mode := .wait }) with eqWait := s.eqWait ++ [z] }) placed
  refine ⟨p, f, fun y ne e => calm y nofun ?_⟩
  have ne' : y ≠ z := fun k => ne (congrArg some k)
  exact (congrFun spot y).trans ((Function.update_of_ne ne' ..).trans e)

/-- A zone out of the wait list set up STEADY. -/
theorem Placed.steady {m : Zone → EqSpot} {w : List Zone} (h : Placed m w) (z : Zone) :
    Placed (Function.update m z .steady) (w.filter fun x => decide (x ≠ z)) :=
  h.put (fun y e => by simp [e]) (by simp) (h.once.filter _) nofun

theorem filter_ne_of_notMem {w : List Zone} {z : Zone} (h : z ∉ w) : (w.filter fun x => decide (x ≠ z)) = w :=
  List.filter_eq_self.mpr fun _ hx => decide_eq_true fun e => h (e ▸ hx)

theorem calm_of_update {z : Zone} {x : EqSpot} (h : t.spot = Function.update s.spot z x) (o : Option Zone)
    (hx : o = some z ∨ x = .steady) : Calm s t o := fun y ne e => by
  rw [h]
  by_cases k : y = z
  · rcases hx with hx | hx
    · exact absurd (by rw [hx, k]) ne
    · rw [k, Function.update_self, hx]
  · rw [Function.update_of_ne k, e]

/-- A zone that does not wait, set STEADY, its slot freed. -/
theorem placed_updEq_steady {z : Zone} {f : EqState → EqState} (h : Placed s.spot s.eqWait) (wait : s.spot z ≠ .wait)
    (steady : (f (s.zone z).eq).mode = .steady) : Placed (s.updEq z f).spot s.eqWait := by
  have k := h.steady z
  rw [filter_ne_of_notMem fun e => wait ((h.wait z).mpr e)] at k
  rw [spot_updEq, steady]
  exact k

/-- A zone whose place stands. -/
theorem EqHeld.updEq (h : EqHeld s) {z : Zone} {f : EqState → EqState}
    (own : (f (s.zone z).eq).mode.spot = (s.zone z).eq.mode.spot) : EqHeld (s.updEq z f) :=
  h.same (by rw [spot_updEq, own]; exact Function.update_eq_self ..) rfl
    fun y e => by rwa [(updEq_only s z f).powerOf (by decide)] at e

theorem eqSetUp_spot (z : Zone) (s : State) : (eqSetUp z s).spot = Function.update s.spot z .steady := spot_updEq ..

/-- A STEADY zone set up. -/
theorem eqSetUp_held {z : Zone} (h : EqHeld s) (steady : s.spot z = .steady) : EqHeld (eqSetUp z s) :=
  h.updEq steady.symm

/-! ### Bank changes (R97) -/

theorem bankChange_held (z : Zone) (h : EqHeld s) : EqHeld (bankChange z s) := by
  unfold bankChange
  split
  · next heard =>
    split
    · next e =>
      have steady : s.spot z = .steady := EqMode.spot_steady.mpr e
      refine (eqJoin_regular h.placed steady).held (fun y => (eqJoin_only z s).powerOf (by decide) y) (fun y _ => h.quiet y)
        fun k => ?_
      rw [heard] at k
      cases k
    · exact h
    · next e => exact h.updEq (by rw [e]; rfl)
  · next k => exact eqSetUp_held h (h.quiet z (Bool.eq_false_iff.mpr k))

theorem changeNotice_held (z : Zone) (g : List FieldGroup) (r : ZoneRecord) (h : EqHeld s) : EqHeld (changeNotice z g r s) := by
  have k := (targetNotice_only z g s).held rfl h
  unfold changeNotice eqNotice
  split
  · exact bankChange_held z k
  · exact k

theorem directWrite_held (z : Zone) (g : FieldGroup) (f : ZoneRecord → ZoneRecord) (h : EqHeld s) :
    EqHeld (directWrite z g f s) :=
  changeNotice_held z _ _ ((updEntry_only ..).held rfl h)

theorem transferWork_held (h : EqHeld s) : EqHeld (transferWork s) := by
  refine State.eachZone_keeps (P := EqHeld) _ (fun z t ht => ?_) _
    ((Only.eachZone _ (fun z s => updEntry_only s z transferEntry) s).held rfl h)
  unfold transferNotice
  split
  · exact changeNotice_held _ _ _ ht
  · exact ht

/-! ### Power states (R102) -/

/-- A zone that leaves LIVE and DRAINING is STEADY. -/
theorem eqLeave_regular (z : Zone) (h : Placed s.spot s.eqWait) (full : Full s.spot s.eqWait) :
    Regular s (eqLeave z s) none ∧ (eqLeave z s).spot z = .steady := by
  have own : ∀ f : Zone → EqSpot, Function.update f z .steady z = EqSpot.steady := fun f => Function.update_self ..
  unfold eqLeave
  split
  · next e => exact ⟨⟨h, full, fun _ _ e => e⟩, EqMode.spot_steady.mpr e⟩
  · next e =>
    have wait : s.spot z = .wait := EqMode.spot_wait.mpr e
    have spot := eqSetUp_spot z { s with eqWait := s.eqWait.filter fun x => decide (x ≠ z) }
    refine ⟨⟨spot ▸ h.steady z, fun ne k => ?_, calm_of_update spot none (.inr rfl)⟩, by rw [spot]; exact own _⟩
    obtain ⟨y, hy⟩ := full (fun e => ne (by
      show s.eqWait.filter _ = []
      rw [e]; rfl)) k
    refine ⟨y, ?_⟩
    rw [spot, Function.update_of_ne]
    · exact hy
    · rintro rfl
      rw [wait] at hy
      cases hy
  · next e =>
    have spot := eqSetUp_spot z s
    have placed : Placed (eqSetUp z s).spot s.eqWait :=
      placed_updEq_steady h (by rw [State.spot, e]; exact nofun) rfl
    obtain ⟨p, f, calm⟩ := eqGrant_regular (s := eqSetUp z s) placed
    exact ⟨⟨p, f, fun y ne k => calm y ne (calm_of_update spot none (.inr rfl) y ne k)⟩,
      calm z nofun (by rw [spot]; exact own _)⟩

theorem eqStop_held (z : Zone) (h : EqHeld s) : EqHeld (eqStop z s) := h.updEq rfl

/-- A zone whose power state is changed, with the answer of the EQ unit. -/
theorem leave_held {z : Zone} {p : PowerState} {l : List Part} (h : EqHeld s) (k : Only l s t)
    (hl : Part.among l (Part.besides [.eq, .eqWait]) = true) (power : ∀ y, t.powerOf y = if y = z then p else s.powerOf y) :
    EqHeld (if (s.powerOf z).heard ∧ ¬ p.heard then eqLeave z t else t) := by
  have spot : t.spot = s.spot := funext fun y =>
    congrArg (fun e : EqState => e.mode.spot) (k.besides hl (p := .eq) (by decide) y).symm
  have wait : t.eqWait = s.eqWait := (k.besides hl (p := .eqWait) (by decide)).symm
  have placed : Placed t.spot t.eqWait := by rw [spot, wait]; exact h.placed
  have full : Full t.spot t.eqWait := by rw [spot, wait]; exact h.full
  have others : ∀ y, y ≠ z → (t.powerOf y).heard = false → t.spot y = .steady := fun y ne q => by
    rw [power, if_neg ne] at q
    rw [spot]
    exact h.quiet y q
  split
  · obtain ⟨r, own⟩ := eqLeave_regular z placed full
    exact Regular.held (z := z) ⟨r.placed, r.full, fun y _ => r.calm y nofun⟩
      (fun y => (eqLeave_only z t).powerOf (by decide) y) others fun _ => own
  · next leaves =>
    refine ⟨placed, full, fun y q => ?_⟩
    by_cases ne : y = z
    · rw [power, if_pos ne] at q
      rw [ne, spot]
      exact h.quiet z (Bool.eq_false_iff.mpr fun k => leaves ⟨k, Bool.eq_false_iff.mp q⟩)
    · exact others y ne q

theorem setPower_held (z : Zone) (p : PowerState) (h : EqHeld s) : EqHeld (setPower z p s) := by
  have stop : ∀ {t : State}, EqHeld t → EqHeld (if p.inService then t else eqStop z t) := fun k => by
    split
    · exact k
    · exact eqStop_held z k
  refine stop (leave_held h (((updPower_only ..).mono rfl).trans ((updGain_only ..).mono rfl) : Only [.power, .gain] _ _) rfl
    fun y => ?_)
  rw [(updGain_only ..).powerOf (by decide), State.powerOf, updPower_power]
  split <;> rfl

theorem enterDraining_held (z : Zone) (h : EqHeld s) : EqHeld (enterDraining z s) := setPower_held z _ h

theorem grant_held (z : Zone) (h : EqHeld s) : EqHeld (grant z s) := by
  unfold grant
  dsimp only
  split
  · exact setPower_held z _ (setPower_held z _ h)
  · exact setPower_held z _ h

theorem winnerPower_held (z : Zone) (a b : Option RouteEntry) (h : EqHeld s) : EqHeld (winnerPower z a b s) := by
  rw [winnerPower_eq]
  split
  · exact h
  · exact setPower_held z _ h

theorem fadeEndPower_held (z : Zone) (h : EqHeld s) : EqHeld (fadeEndPower z s) := by
  unfold fadeEndPower
  split
  · exact enterDraining_held z h
  · exact h

theorem crossfadeFinish_held (z : Zone) (h : EqHeld s) : EqHeld (crossfadeFinish z s) := by
  have power := (crossfadeFinish_only z s).powerOf (by decide)
  have ended : ∀ {inc p k held}, (s.zone z).eq.mode = .xfade inc p k held →
      Placed (s.updEq z fun _ => { mode := .steady, running := inc }).spot s.eqWait ∧
        Calm s (s.updEq z fun _ => { mode := .steady, running := inc }) none ∧
        (s.updEq z fun _ => { mode := .steady, running := inc }).spot z = .steady := fun {inc} _ _ _ e =>
    have spot := spot_updEq z (fun _ => { mode := .steady, running := inc }) s
    ⟨placed_updEq_steady h.placed (by rw [State.spot, e]; exact nofun) rfl, calm_of_update spot none (.inr rfl),
      by rw [spot]; exact Function.update_self ..⟩
  have loud : ∀ {inc p k held}, (s.zone z).eq.mode = .xfade inc p k held → (s.powerOf z).heard ≠ false := fun e q => by
    have k := h.quiet z q
    rw [State.spot, e] at k
    cases k
  unfold crossfadeFinish at power ⊢
  split
  · next e =>
    rw [e] at power
    obtain ⟨placed, calm, steady⟩ := ended e
    have r := eqJoin_regular placed steady
    exact Regular.held (s := s) ⟨r.placed, r.full, fun y ne k => r.calm y ne (calm y nofun k)⟩ power (fun y _ => h.quiet y)
      fun q => absurd q (loud e)
  · next e =>
    rw [e] at power
    obtain ⟨placed, calm, steady⟩ := ended e
    have r := eqGrant_regular placed
    exact Regular.held (s := s) (z := z) ⟨r.placed, r.full, fun y _ k => r.calm y nofun (calm y nofun k)⟩ power
      (fun y _ => h.quiet y) fun q => absurd q (loud e)
  · exact h
  · exact h

theorem setRoutes_held (z : Zone) (r : List RouteEntry) (h : EqHeld s) : EqHeld (setRoutes z r s) := by
  by_cases e : s.winner z = r.head?
  · rw [setRoutes_same e]
    exact (updRoute_only ..).held rfl h
  · have k := winnerPower_held z (s.winner z) r.head? ((routeWritten_only z r s).held rfl h)
    rw [setRoutes_other e]
    split
    · exact fadeEndPower_held z k
    · exact k

theorem PowerAct.held (h : EqHeld s) (a : PowerAct s t) : EqHeld t := by
  cases a with
  | routes => exact setRoutes_held _ _ h
  | fadeRest z => exact fadeEndPower_held z ((updRoute_only ..).held rfl h)
  | wake | park => exact setPower_held _ _ h
  | grant => exact grant_held _ h
  | crossfadeEnd z => exact crossfadeFinish_held z h

/-! ### Service, samples and start-up -/

theorem enableZone_held {z : Zone} (h : EqHeld s) (off : s.powerOf z = .disabled) : EqHeld (enableZone z s) := by
  have written := directWrite_held z .enable (fun r => { r with enabled := true }) h
  have lined : ∀ n, EqHeld ((clearLine z (directWrite z .enable (fun r => { r with enabled := true }) s)).updLine z
      fun l => { l with dCur := n }) := fun n => (updLine_only ..).held rfl ((clearLine_only ..).held rfl written)
  unfold enableZone
  dsimp only
  refine setPower_held z _ ((updRoute_only ..).held rfl (eqSetUp_held (lined _) ((lined _).quiet z ?_)))
  rw [(updLine_only ..).powerOf (by decide), (clearLine_only ..).powerOf (by decide), (directWrite_only ..).powerOf (by decide),
    off]
  rfl

theorem disableStopped_held (z : Zone) (h : EqHeld s) : EqHeld (disableStopped z s) := by
  have empty : ((s.updRoute z fun r => { r with entries := [], fade := .atRest none }).zone z).route.entries = [] := by
    rw [updRoute_route, if_pos rfl]
  have emptied : EqHeld (s.updRoute z fun r => { r with entries := [], fade := .atRest none }) :=
    (updRoute_only ..).held rfl h
  unfold disableStopped
  dsimp only
  refine setPower_held z .disabled ?_
  split
  · exact (probeRemoved_empty .zoneDisabled empty).held rfl emptied
  · exact emptied

theorem disableZone_held (z : Zone) (h : EqHeld s) : EqHeld (disableZone z s) :=
  (disableZone_rest z s).held rfl (directWrite_held z _ _ (disableStopped_held z h))

theorem eqStep_spot (e : EqState) (x : Sample) : (eqStep e x).1.mode.spot = e.mode.spot := by
  unfold eqStep
  dsimp only
  split
  · next k => rw [k]
  · next k => rw [k]
  · next k => simp only [k, EqMode.spot]

theorem feedZone_spot (inputs : Vector Sample 8) (probe : Sample) (z : Zone) (s : State) :
    (feedZone inputs probe z s).1.spot = s.spot := by
  have only := updRoute_only s z fun r => { r with fade := (s.zone z).route.fade.step }
  have fed : ∀ (u : State) (x : Sample), (u.updEq z fun _ => (eqStep (u.zone z).eq x).1).spot = u.spot := fun u x => by
    rw [spot_updEq, eqStep_spot]
    exact Function.update_eq_self ..
  unfold feedZone
  dsimp only
  split
  · rw [(clipCount_only ..).spot (by decide), fed, only.spot (by decide)]
  · rw [fed, only.spot (by decide)]

theorem sampleZone_spot (x : Vector Sample 8) (y : Sample) (k : Nat) (z : Zone) (s : State) :
    (sampleZone x y k z s).spot = s.spot := by
  unfold sampleZone
  split
  · dsimp only
    rw [(scaleZone_only ..).spot (by decide), (delayZone_only ..).spot (by decide), feedZone_spot]
  · exact (tdmOut_only ..).spot (by decide)

/-- Start-up sets every cascade up in STEADY (R110). -/
theorem startUp_spot (s : State) (z : Zone) : (startUp s).spot z = .steady := by
  have cascades : ((startLined s).eachZone eqSetUp).spot z = .steady := by
    refine State.eachZone_all (P := fun s z => s.spot z = .steady) (fun z s => ?_) (fun z s y h => ?_) _ z
    · rw [eqSetUp_spot, Function.update_self]
    · rw [eqSetUp_spot, Function.update_apply]
      split
      · rfl
      · exact h
  have rest : Only [.ports, .store, .temp] ((startLined s).eachZone eqSetUp) (startUp s) := by
    rw [startUp_eq, startRound]
    exact (((startDone_rest s).mono rfl).trans ((loadTimer_only _).mono rfl)).trans ((roundOn_only ..).mono rfl)
  rw [rest.spot (by decide), cascades]

theorem PowerState.tick_heard (p : PowerState) : p.tick.heard = p.heard := by cases p <;> rfl

/-- With every zone STEADY and no zone waiting the EQ is held. -/
theorem EqHeld.steady (spot : ∀ z, s.spot z = .steady) (wait : s.eqWait = []) : EqHeld s :=
  ⟨⟨fun z => by rw [spot, wait]; exact ⟨nofun, nofun⟩, wait ▸ List.nodup_nil, fun y z k e => by rw [spot] at e; cases e⟩,
    fun k => absurd wait k, fun z _ => spot z⟩

set_option Elab.async true in
theorem eqHeld_act (h : EqHeld s) (dormant : Dormant s) (a : Act s t) : EqHeld t := by
  cases a with
  | reset a =>
    cases a with
    | reset => exact .steady (fun z => by rw [State.spot, afterReset_zone]; rfl) rfl
    | startUp starting =>
      refine .steady (startUp_spot s) (((startUp_only s).same .eqWait (by decide)).symm.trans ?_)
      refine List.eq_nil_iff_forall_not_mem.mpr fun z hz => ?_
      have quiet := h.quiet z (by rw [dormant starting z]; rfl)
      rw [(h.placed.wait z).mpr hz] at quiet
      cases quiet
  | tick =>
    refine (tick_only s).held_heard rfl (fun z => ?_) h
    rcases powerOf_tick z s with k | k
    · rw [k]
    · rw [k, PowerState.tick_heard]
  | complete => exact (completeHand_only s).held rfl h
  | service a =>
    cases a with
    | enable _ off => exact enableZone_held h off
    | disable => exact disableZone_held _ h
  | record a =>
    cases a with
    | transfer => exact transferWork_held h
    | allocate => exact directWrite_held _ _ _ h
    | compute => exact (computeOne_only ..).held rfl h
  | power a => exact a.held h
  | audio a =>
    cases a with
    | slew => exact (slewZone_only ..).held rfl h
    | gain => exact (gainZone_only ..).held rfl h
    | sample x y k z =>
      have only := sampleZone_only x y k z s
      exact h.same (sampleZone_spot x y k z s) (only.same .eqWait (by decide)).symm
        fun z e => by rwa [only.powerOf (by decide)] at e
    | clip => exact (updGain_only ..).held rfl h
  | port a | unit a | set a | plain a => exact a.only.held rfl h

/-- Settles O13: each act keeps the zones placed, none waiting at a free slot, and the zones that are not heard STEADY. -/
theorem slotsKept : Obligations.SlotsKept := by
  refine kept_of_acts fun h a => ?_
  obtain ⟨held, dormant⟩ := eqInv_iff.mp h
  exact eqInv_iff.mpr ⟨eqHeld_act held dormant a, dormant_act dormant a⟩

end Sys2Proof.Machine
end

section
/-! PROOFS. Every step keeps the couplings one level deep (R20, R32, R176), and LEADER_ABSENT and the estimate source in
line with the couplings, the weights and the zones in service (R37, R39, R41, R45). -/

namespace Sys2Proof.Machine

-- One theorem at a time, and a long one, marked, on a thread of its own: the compile has 22 GiB. The two linters do
-- not see into such a proof.
set_option Elab.async false
set_option linter.unusedTactic false
set_option linter.unreachableTactic false

variable {s t : State} {l : List Part}

/-! ### Couplings one level deep -/

/-- A coupling names another zone, which is no follower (R32). -/
def OneDeep (f : Zone → Option Coupling) : Prop := ∀ z k, f z = some k → k.leader ≠ z ∧ f k.leader = none

/-- The couplings of the shadow table. -/
def State.couplings (s : State) (z : Zone) : Option Coupling := (s.shadow z).coupling

theorem couplingInv_iff : CouplingInv s ↔
    OneDeep s.couplings ∧ s.queue.Holds fun w c => c.kind = .coupling → w ≠ .all := Iff.rfl

theorem Change.write_coupling (c : Change) (z : Zone) (r : ZoneRecord) :
    (c.write z r).coupling = r.coupling ∨ ∃ k, c = .coupling k ∧ (c.write z r).coupling = k := by
  cases c with
  | coupling k => exact .inr ⟨k, rfl, rfl⟩
  | _ => exact .inl rfl

set_option Elab.async true in
/-- A coupling that no check drops (R32). -/
theorem good_of_dropReason {z : Zone} {k : Coupling} (h : dropReason s (.one z) (.coupling (some k)) = none) :
    k.leader ≠ z ∧ s.couplings k.leader = none ∧ ∀ y x, s.couplings y = some x → y ≠ z → x.leader ≠ z := by
  have good : badCoupling s z k.leader = false := by
    simp only [dropReason] at h
    split at h
    · cases h
    · split at h
      · cases h
      · next e => exact Bool.eq_false_iff.mpr e
  simp only [badCoupling, Bool.or_eq_false_iff, decide_eq_false_iff_not, Option.isSome_eq_false_iff,
    Option.isNone_iff_eq_none, List.any_eq_false] at good
  refine ⟨good.1.1, good.1.2, fun y x hx ne e => good.2 y (mem_allZones y) ?_⟩
  have hx : (s.shadow y).coupling = some x := hx
  simp [ne, hx, e]

/-- The coupling of one zone written. -/
theorem OneDeep.update {f g : Zone → Option Coupling} (h : OneDeep f) {z : Zone} {c : Option Coupling}
    (other : ∀ y, y ≠ z → g y = f y) (own : g z = c)
    (good : ∀ k, c = some k → k.leader ≠ z ∧ f k.leader = none ∧ ∀ y x, f y = some x → y ≠ z → x.leader ≠ z) : OneDeep g := by
  intro y k hk
  by_cases e : y = z
  · rw [e] at hk ⊢
    obtain ⟨ne, none, -⟩ := good k (own ▸ hk)
    exact ⟨ne, (other _ ne).trans none⟩
  · rw [other y e] at hk
    obtain ⟨ne, none⟩ := h y k hk
    refine ⟨ne, ?_⟩
    by_cases k' : k.leader = z
    · rw [k', own]
      cases c with
      | none => rfl
      | some x => exact absurd k' ((good x rfl).2.2 y k hk e)
    · exact (other _ k').trans none

set_option Elab.async true in
theorem completeHand_oneDeep (h : CouplingInv s) : OneDeep (completeHand s).couplings := by
  obtain ⟨deep, -, hand⟩ := couplingInv_iff.mp h
  have same : (∀ z, (completeHand s).couplings z = s.couplings z) → OneDeep (completeHand s).couplings := fun e => by
    rwa [show (completeHand s).couplings = s.couplings from funext e]
  rcases completeHand_entry s with e | ⟨x, hx, kept, e⟩
  · exact same fun z => by rw [State.couplings, State.shadow, e]; rfl
  · have coupling : ∀ z, (completeHand s).couplings z = ((writeChange x.entry.change x.entry.zone s).shadow z).coupling :=
      fun z => by rw [State.couplings, State.shadow, e]; rfl
    have written := fun z => (coupling z).trans (congrArg (fun e => e.shadow.coupling)
      (writeChange_entry x.entry.change x.entry.zone z s))
    by_cases k : ∃ c, x.entry.change = .coupling c
    · obtain ⟨c, hc⟩ := k
      cases hz : x.entry.zone with
      | all => exact absurd hz (hand x hx (by rw [hc]; rfl))
      | one z =>
        rw [hc, hz] at kept
        refine deep.update (z := z) (c := c) (fun y ne => ?_) ?_ fun k hk => good_of_dropReason (hk ▸ kept)
        · refine (written y).trans ?_
          rw [if_neg]
          · rfl
          · rw [hz]
            rintro (k | k)
            · cases k
            · cases k; exact ne rfl
        · refine (written z).trans ?_
          rw [if_pos (.inr hz), TableEntry.written, hc]
          rfl
    · refine same fun z => (written z).trans ?_
      split
      · exact (x.entry.change.write_coupling z _).resolve_right fun ⟨c, hc, _⟩ => k ⟨c, hc⟩
      · rfl

/-- A loaded coupling is one that the repair has not dropped (R5). -/
theorem startUp_coupling {z : Zone} {k : Coupling} (h : ((startUp s).active z).coupling = some k) :
    k.leader ≠ z ∧ (k.leader < z → ((startUp s).active k.leader).coupling = none) ∧
      ∀ y x, y < z → ((startUp s).active y).coupling = some x → x.leader ≠ z := by
  rw [startUp_active, sceneOver_coupling] at h
  rcases loadOf_cases (startUp s) z with e | ⟨r, -, -, e⟩
  · rw [e] at h; cases h
  · rw [e] at h
    have kept : (if couplingDropped (startUp s) z r.limited then none else r.limited.coupling) = some k := h
    split at kept
    · cases kept
    · next hd =>
      simp only [couplingDropped, kept, Bool.or_eq_true, Bool.and_eq_true, decide_eq_true_eq, not_or, not_and,
        List.any_eq_true, not_exists, Option.isSome_iff_ne_none, not_not] at hd
      refine ⟨hd.1.1, hd.1.2, fun y x lt hx e => hd.2 y ?_ ?_⟩
      · simpa [loadedBefore] using lt
      · simp [hx, e]

theorem startUp_oneDeep (s : State) : OneDeep (startUp s).couplings := by
  intro z k h
  rw [State.couplings, startUp_shadow] at h ⊢
  obtain ⟨ne, lower, -⟩ := startUp_coupling h
  refine ⟨ne, ?_⟩
  rcases lt_or_gt_of_ne ne with lt | gt
  · exact lower lt
  · by_contra some
    obtain ⟨x, hx⟩ := Option.ne_none_iff_exists'.mp some
    exact (startUp_coupling hx).2.2 z k gt h rfl

set_option Elab.async true in
theorem oneDeep_act (h : CouplingInv s) (a : Act s t) : OneDeep t.couplings := by
  have same : (∀ z, (t.zone z).entry.shadow.coupling = (s.zone z).entry.shadow.coupling) → OneDeep t.couplings := fun e => by
    rw [show t.couplings = s.couplings from funext e]
    exact h.1
  have frame : ∀ {l : List Part}, Only l s t → Part.among l (Part.besides [.entry]) = true → OneDeep t.couplings :=
    fun k hl => same fun z => by rw [k.besides hl (p := .entry) (by decide) z]
  have both : ∀ {z : Zone} {f : ZoneRecord → ZoneRecord},
      (∀ y, (t.zone y).entry = if y = z then (s.zone y).entry.both f else (s.zone y).entry) →
      (∀ r, (f r).coupling = r.coupling) → OneDeep t.couplings := fun e hf => same fun y => by
      rw [e]
      split
      · exact hf _
      · rfl
  cases a with
  | reset a =>
    cases a with
    | reset =>
      intro z k e
      rw [State.couplings, State.shadow, afterReset_zone] at e
      cases e
    | startUp => exact startUp_oneDeep s
  | tick => exact frame (tick_only s) rfl
  | complete => exact completeHand_oneDeep h
  | service a =>
    cases a with
    | enable => exact both (fun y => enableZone_entry y _ s) fun _ => rfl
    | disable => exact both (fun y => disableZone_entry y _ s) fun _ => rfl
  | record a =>
    cases a with
    | transfer => exact same fun z => by rw [transferWork_entry, transferEntry_shadow]
    | allocate => exact both (fun y => directWrite_entry y _ _ _ s) fun _ => rfl
    | compute => exact frame (computeOne_only ..) rfl
  | power a | audio a | port a | unit a | set a | plain a => exact frame a.only rfl

theorem couplingInv_act (h : CouplingInv s) (a : Act s t) : CouplingInv t :=
  couplingInv_iff.mpr ⟨oneDeep_act h a, holds_act h.2 a fun _ k => k.namesOne⟩

/-! ### The estimate source and LEADER_ABSENT -/

/-- A zone follows a zone in service (R45). -/
def State.Led (s : State) (z : Zone) : Prop := ∃ k, (s.active z).coupling = some k ∧ (s.active k.leader).enabled = true

/-- LEADER_ABSENT and the estimate source of a zone are those of its coupling and its weights (R37, R45). -/
def State.Sourced (s : State) (z : Zone) : Prop :=
  ((s.zone z).target.leaderAbsent = true ↔ (s.active z).coupling ≠ none ∧ ¬ s.Led z) ∧
    ((s.zone z).target.source = .leader ↔ s.Led z) ∧
    (¬ s.Led z → ((s.zone z).target.source = .reference ↔ ∀ n : Fin 8, (s.active z).weights[n] = 0))

theorem sourceInv_iff : SourceInv s ↔ ∀ z, s.Sourced z := Iff.rfl

theorem State.Sourced.congr {z : Zone} (h : s.Sourced z) (coupling : (t.active z).coupling = (s.active z).coupling)
    (weights : (t.active z).weights = (s.active z).weights)
    (leader : ∀ k, (s.active z).coupling = some k → (t.active k.leader).enabled = (s.active k.leader).enabled)
    (target : (t.zone z).target = (s.zone z).target) : t.Sourced z := by
  have led : t.Led z ↔ s.Led z := by
    rw [State.Led, coupling]
    exact exists_congr fun k => and_congr_right fun hk => by rw [leader k hk]
  rw [State.Sourced, led, coupling, weights, target]
  exact h

theorem State.Sourced.entries {z : Zone} (h : s.Sourced z) (entry : ∀ y, (t.zone y).entry = (s.zone y).entry)
    (target : (t.zone z).target = (s.zone z).target) : t.Sourced z := by
  have active : ∀ y, t.active y = s.active y := fun y => congrArg TableEntry.active (entry y)
  exact h.congr (by rw [active]) (by rw [active]) (fun k _ => by rw [active]) target

theorem Only.sourced (k : Only l s t) (hl : Part.among l (Part.besides [.entry, .target]) = true) {z : Zone}
    (h : s.Sourced z) : t.Sourced z :=
  h.entries (fun y => (k.besides hl (p := .entry) (by decide) y).symm) (k.besides hl (p := .target) (by decide) z).symm

/-! ### Computations -/

theorem weighs_eq_false {r : ZoneRecord} : r.weighs = false ↔ ∀ n : Fin 8, r.weights[n] = 0 := by
  simp only [ZoneRecord.weighs, List.any_eq_false, decide_eq_true_eq, not_lt, Nat.le_zero, Vector.mem_toList_iff,
    Vector.mem_iff_getElem]
  exact ⟨fun h n => h _ ⟨n.val, n.isLt, rfl⟩, fun h x ⟨i, hi, e⟩ => e ▸ h ⟨i, hi⟩⟩

theorem ownEstimate_source (r : ZoneRecord) (x : TargetState) (n : Int) (v : Vector SensorRecord 8) :
    (ownEstimate r x n v).2.1 ≠ .leader ∧ ((ownEstimate r x n v).2.1 = .reference ↔ r.weighs = false) := by
  unfold ownEstimate
  split
  · next h =>
    rw [h]
    split <;> exact ⟨nofun, nofun, nofun⟩
  · next h => exact ⟨nofun, fun _ => Bool.eq_false_iff.mpr h, fun _ => rfl⟩

theorem settleTarget_source (c : ComputationClass) (b : Bool) (n : Nat) (x : TargetState) :
    (settleTarget c b n x).1.source = x.source ∧ (settleTarget c b n x).1.leaderAbsent = x.leaderAbsent := by
  unfold settleTarget
  (repeat' split) <;> exact ⟨rfl, rfl⟩

theorem ledBy_none {z : Zone} : s.ledBy z = none ↔ ¬ s.Led z := by
  unfold State.ledBy State.Led
  split
  · next k e =>
    simp only [e, Option.some.injEq, exists_eq_left']
    split <;> simp_all
  · next e => simp [e]

set_option Elab.async true in
/-- What a computation forms of LEADER_ABSENT and the estimate source (R41, R45). -/
theorem formFields_source (s : State) (z : Zone) :
    ((formFields s z).leaderAbsent = true ↔ (s.active z).coupling ≠ none ∧ ¬ s.Led z) ∧
    ((formFields s z).source = .leader ↔ s.Led z) ∧
    (¬ s.Led z → ((formFields s z).source = .reference ↔ ∀ n : Fin 8, (s.active z).weights[n] = 0)) := by
  unfold formFields
  dsimp only
  split
  · next k e =>
    have led : s.Led z := not_not.mp fun n => by
      rw [ledBy_none.mpr n] at e
      cases e
    exact ⟨⟨nofun, fun h => absurd led h.2⟩, ⟨fun _ => led, fun _ => rfl⟩, fun n => absurd led n⟩
  · next e =>
    have led := ledBy_none.mp e
    have own := ownEstimate_source (s.active z) (s.zone z).target s.settings.tRef s.temp.sensors
    refine ⟨?_, ⟨fun h => absurd h own.1, fun h => absurd h led⟩, fun _ => own.2.trans weighs_eq_false⟩
    rw [Option.isSome_iff_ne_none]
    exact (and_iff_left led).symm

theorem computeOne_sourced (c : ComputationClass) (z y : Zone) (s : State) (h : s.Sourced y ∨ y = z) :
    (computeOne c z s).Sourced y := by
  have entry := fun x => ((computeOne_only c z s).same .entry (by decide) x).symm
  have zone := computeOne_zone c z y s
  by_cases e : y = z
  · subst e
    rw [if_pos rfl] at zone
    have formed := formFields_source s y
    have settled := settleTarget_source c (s.active y).enabled s.settings.deadband (formFields s y)
    have active : ∀ x, (computeOne c y s).active x = s.active x := fun x => congrArg TableEntry.active (entry x)
    have led : (computeOne c y s).Led y ↔ s.Led y := by simp only [State.Led, active]
    rw [State.Sourced, led, active, zone]
    dsimp only
    rw [settled.1, settled.2]
    exact formed
  · rw [if_neg e] at zone
    exact (h.resolve_right e).entries entry (congrArg ZoneState.target zone)

/-- What the change of a zone makes of it and no other change undoes, holds after a fold over a list with that zone. -/
theorem State.eachOf_mem {P : State → Prop} {f : Zone → State → State} {z : Zone} (own : ∀ s, P (f z s))
    (keeps : ∀ y s, P s → P (f y s)) (l : List Zone) : ∀ s : State, z ∈ l → P (s.eachOf l f) := by
  induction l with
  | nil => exact fun _ h => absurd h List.not_mem_nil
  | cons y l ih =>
    intro s h
    rcases List.mem_cons.mp h with rfl | h
    · exact State.eachOf_keeps l f keeps _ (own s)
    · exact ih _ h

theorem compute_sourced (c : ComputationClass) (b : Bool) (z y : Zone) (s : State)
    (h : s.Sourced y ∨ y = z ∨ b = true ∧ ∃ k, (s.active y).coupling = some k ∧ k.leader = z) :
    (compute c b z s).Sourced y := by
  have keep : ∀ {u : State}, u.Sourced y → (u.eachOf (u.followers z) (computeOne .record)).Sourced y := fun hu =>
    State.eachOf_keeps (P := fun u => u.Sourced y) _ _ (fun x u k => computeOne_sourced .record x y u (.inl k)) _ hu
  unfold compute
  dsimp only
  rcases or_assoc.mpr h with h | ⟨hb, k, hk, hz⟩
  · split
    · exact keep (computeOne_sourced c z y s h)
    · exact computeOne_sourced c z y s h
  · rw [if_pos (.inl hb)]
    refine State.eachOf_mem (P := fun u => u.Sourced y) (fun u => computeOne_sourced .record y y u (.inr rfl))
      (fun x u k => computeOne_sourced .record x y u (.inl k)) _ _ ?_
    have coupling : ((computeOne c z s).active y).coupling = some k := by
      rw [State.active, ← (computeOne_only c z s).same .entry (by decide) y]
      exact hk
    simp [State.followers, coupling, hz]

/-! ### Change notices and direct writes -/

theorem targetNotice_sourced (z y : Zone) (g : List FieldGroup) (s : State) (h : s.Sourced y ∨
    y = z ∧ (.geometry ∈ g ∨ .coupling ∈ g) ∨ .enable ∈ g ∧ (y = z ∨ ∃ k, (s.active y).coupling = some k ∧ k.leader = z)) :
    (targetNotice z g s).Sourced y := by
  unfold targetNotice
  split
  · exact compute_sourced .record true z y s (h.imp_right fun k =>
      k.elim (fun k => .inl k.1) fun k => k.2.imp_right fun k => ⟨rfl, k⟩)
  · next off =>
    have h := h.imp_right fun k => k.resolve_right fun k => off k.1
    split
    · exact compute_sourced .record false z y s (h.imp_right fun k => .inl k.1)
    · next no => exact h.resolve_right fun k => no (or_assoc.mp (.inl k.2))

theorem changeNotice_sourced (z y : Zone) (g : List FieldGroup) (r : ZoneRecord) (s : State) (h : s.Sourced y ∨
    y = z ∧ (.geometry ∈ g ∨ .coupling ∈ g) ∨ .enable ∈ g ∧ (y = z ∨ ∃ k, (s.active y).coupling = some k ∧ k.leader = z)) :
    (changeNotice z g r s).Sourced y :=
  (eqNotice_only z g r _).sourced rfl (targetNotice_sourced z y g s h)

theorem writeBoth_active (z y : Zone) (f : ZoneRecord → ZoneRecord) (s : State) :
    (writeBoth z f s).active y = if y = z then f (s.active y) else s.active y := by
  rw [writeBoth, State.active, entry_updEntry]
  split <;> rfl

/-- A direct write of the enabled field computes the zone and its followers (R12, R51, R52). -/
theorem enabled_sourced (z y : Zone) (b : Bool) (h : s.Sourced y) :
    (directWrite z .enable (fun r => { r with enabled := b }) s).Sourced y := by
  have active := fun x => writeBoth_active z x (fun r => { r with enabled := b }) s
  have coupling : ∀ x, ((writeBoth z (fun r => { r with enabled := b }) s).active x).coupling = (s.active x).coupling :=
    fun x => by
      rw [active]
      split <;> rfl
  refine changeNotice_sourced z y [.enable] _ _ ?_
  by_cases k : y = z ∨ ∃ k, (s.active y).coupling = some k ∧ k.leader = z
  · refine .inr (.inr ⟨List.mem_cons_self, k.imp_right ?_⟩)
    rw [coupling]
    exact id
  · rw [not_or] at k
    refine .inl (h.congr (coupling y) ?_ (fun x hx => ?_) ?_)
    · rw [active, if_neg k.1]
    · rw [active, if_neg fun e => k.2 ⟨x, hx, e⟩]
    · exact ((updEntry_only s z _).same .target (by decide) y).symm

theorem allocated_sourced (z y : Zone) (a : Option Allocation) (h : s.Sourced y) :
    (directWrite z .allocation (fun r => { r with allocation := a }) s).Sourced y := by
  have active := fun x => writeBoth_active z x (fun r => { r with allocation := a }) s
  refine changeNotice_sourced z y [.allocation] _ _ (.inl (h.congr ?_ ?_ (fun x _ => ?_) ?_))
  · rw [active]; split <;> rfl
  · rw [active]; split <;> rfl
  · rw [active]; split <;> rfl
  · exact ((updEntry_only s z _).same .target (by decide) y).symm

/-! ### The transfer -/

/-- What a transfer leaves of a record by the pending groups: the enabled field always, the coupling and the weights but
for a pending COUPLING and GEOMETRY (R6, R9). -/
theorem TableEntry.Tabled.transferred {e : TableEntry} (h : e.Tabled) :
    (transferEntry e).active.enabled = e.active.enabled ∧
      (e.dirty = true ∧ (.geometry ∈ e.groups ∨ .coupling ∈ e.groups) ∨
        (transferEntry e).active.coupling = e.active.coupling ∧ (transferEntry e).active.weights = e.active.weights) := by
  obtain ⟨-, queued, agrees⟩ := h
  have enabled : e.active.enabled = e.shadow.enabled := agrees .enable fun k => absurd (queued _ k) (by decide)
  unfold transferEntry
  split
  · next dirty =>
    refine ⟨enabled.symm, or_iff_not_imp_left.mpr fun k => ?_⟩
    have k := not_or.mp fun x => k ⟨dirty, x⟩
    exact ⟨(agrees .coupling k.2).symm, (agrees .geometry k.1).2.2.2.1.symm⟩
  · exact ⟨rfl, .inr ⟨rfl, rfl⟩⟩

theorem transferWork_sourced (table : TableInv s) (y : Zone) (h : s.Sourced y) : (transferWork s).Sourced y := by
  have keeps : ∀ z (u : State), u.Sourced y → (transferNotice s z u).Sourced y := fun z u hu => by
    unfold transferNotice
    split
    · exact changeNotice_sourced z y _ _ u (.inl hu)
    · exact hu
  have copied := fun z => copied_zone z s
  have active : ∀ z, (s.eachZone fun z s => s.updEntry z transferEntry).active z = (transferEntry (s.zone z).entry).active :=
    fun z => congrArg (fun x => x.entry.active) (copied z)
  rcases ((tableInv_iff s).mp table y).transferred.2 with ⟨dirty, groups⟩ | ⟨coupling, weights⟩
  · refine State.eachOf_mem (P := fun u => u.Sourced y) (fun u => ?_) keeps allZones _ (mem_allZones y)
    rw [transferNotice, if_pos dirty]
    exact changeNotice_sourced y y _ _ u (.inr (.inl ⟨rfl, groups⟩))
  · refine State.eachZone_keeps (P := fun u => u.Sourced y) _ keeps _ (h.congr ?_ ?_ (fun k _ => ?_) ?_)
    · rw [active]; exact coupling
    · rw [active]; exact weights
    · rw [active]; exact ((tableInv_iff s).mp table k.leader).transferred.1
    · rw [copied]

/-! ### The invariant -/

theorem sourced_of_initial {z : Zone} (h : s.zone z = ZoneState.initial) : s.Sourced z := by
  have none : (s.active z).coupling = none := congrArg (fun x => x.entry.active.coupling) h
  have led : ¬ s.Led z := fun ⟨k, e, _⟩ => by
    rw [none] at e
    cases e
  rw [State.Sourced, State.active, h]
  exact ⟨⟨nofun, fun k => absurd rfl k.1⟩, ⟨nofun, fun k => absurd k led⟩, fun _ => ⟨fun _ => by decide, fun _ => rfl⟩⟩

theorem startUp_sourced (z : Zone) (s : State) : (startUp s).Sourced z := by
  have computed : (startComputed s).Sourced z :=
    State.eachOf_mem (P := fun u => u.Sourced z) (fun u => compute_sourced .record false z z u (.inr (.inl rfl)))
      (fun x u k => compute_sourced .record false x z u (.inl k)) allZones _ (mem_allZones z)
  exact (startUp_finish s).sourced rfl ((startLined_only s).sourced rfl computed)

theorem enableZone_sourced (z y : Zone) (h : s.Sourced y) : (enableZone z s).Sourced y :=
  (enableZone_rest z s).sourced rfl (enabled_sourced z y true h)

theorem disableZone_sourced (z y : Zone) (h : s.Sourced y) : (disableZone z s).Sourced y :=
  (disableZone_rest z s).sourced rfl (enabled_sourced z y false ((disableStopped_only z s).sourced rfl h))

theorem completeHand_sourced (z : Zone) (h : s.Sourced z) : (completeHand s).Sourced z := by
  have active : ∀ y, (completeHand s).active y = s.active y := fun y => by
    rw [State.active, State.active]
    rcases completeHand_entry s with e | ⟨hand, -, -, e⟩
    · rw [e]
    · rw [e, writeChange_entry]
      split <;> rfl
  exact h.congr (by rw [active]) (by rw [active]) (fun k _ => by rw [active])
    ((completeHand_only s).same .target (by decide) z).symm

set_option Elab.async true in
theorem sourced_act (table : TableInv s) (h : ∀ z, s.Sourced z) (a : Act s t) (z : Zone) : t.Sourced z := by
  cases a with
  | reset a =>
    cases a with
    | reset => exact sourced_of_initial (afterReset_zone ..)
    | startUp => exact startUp_sourced z s
  | tick => exact (tick_only s).sourced rfl (h z)
  | complete => exact completeHand_sourced z (h z)
  | service a =>
    cases a with
    | enable => exact enableZone_sourced _ z (h z)
    | disable => exact disableZone_sourced _ z (h z)
  | record a =>
    cases a with
    | transfer => exact transferWork_sourced table z (h z)
    | allocate => exact allocated_sourced _ z _ (h z)
    | compute c y => exact computeOne_sourced c y z s (.inl (h z))
  | power a | audio a | port a | unit a | set a | plain a => exact a.only.sourced rfl (h z)

/-- Settles O10: a check drops each coupling that would lead a follower or a leader, start-up repairs those it loads,
and whatever changes a coupling, a weight or the enabled field computes the zones whose source and LEADER_ABSENT rest on it. -/
theorem couplingsKept : Obligations.CouplingsKept :=
  ⟨kept_of_acts couplingInv_act, kept_of_acts fun h a => ⟨tableInv_act h.1 a, sourced_act h.1 (sourceInv_iff.mp h.2) a⟩⟩

end Sys2Proof.Machine
end

section
/-! PROOFS. What a step takes (00_scope 4.4), what a FREE apply unit takes (R28), and what a winner that appears or
becomes absent makes of a power state (R133). -/

namespace Sys2Proof.Machine

-- One theorem at a time, and a long one, marked, on a thread of its own: the compile has 22 GiB. The two linters do
-- not see into such a proof.
set_option Elab.async false
set_option linter.unusedTactic false
set_option linter.unreachableTactic false

variable {s t : State} {l : List Part}

/-- Settles O1: a step is a match on the queue of commands. -/
theorem stepTakesFront : Obligations.StepTakesFront :=
  ⟨fun _ _ s h => by rw [step, h], fun s h => by rw [step, h]⟩

/-! ### The entry taken (R28) -/

/-- The oldest entry of a port: none before it is of that port. -/
theorem oldestOf_some {p : Port} {q : List QueueEntry} {i : Nat} (h : oldestOf p q = some i) :
    ∃ hi : i < q.length, q[i].port = p ∧ ∀ x ∈ q.take i, x.port ≠ p := by
  obtain ⟨hi, at_i, before⟩ := List.findIdx?_eq_some_iff_getElem.mp h
  refine ⟨hi, of_decide_eq_true at_i, fun x hx => ?_⟩
  obtain ⟨j, hj, rfl⟩ := List.mem_take_iff_getElem.mp hx
  simpa using before j (by omega)

/-- A port without an oldest entry has no entry. -/
theorem oldestOf_none {p : Port} {q : List QueueEntry} (h : oldestOf p q = none) : ∀ x ∈ q, x.port ≠ p :=
  fun x hx => by simpa using List.findIdx?_eq_none_iff.mp h x hx

set_option Elab.async true in
/-- What the place of the entry taken says of the queue, by the port that is served. -/
theorem takePlace_some {m i : Nat} {q : List QueueEntry} (h : takePlace m q = some i) : ∃ hi : i < q.length,
    (q.head?.map (·.bypass) = some m ∧ i = 0) ∨ (q.head?.map (·.bypass) ≠ some m ∧
      (∀ x ∈ q.take i, x.port ≠ q[i].port) ∧ (q[i].port ≠ .V → ∀ x ∈ q, x.port ≠ .V) ∧
      (q[i].port = .P → ∀ x ∈ q, x.port ≠ .C)) := by
  cases q with
  | nil => cases h
  | cons e rest =>
    rw [takePlace] at h
    by_cases k : e.bypass = m
    · rw [if_pos k] at h
      cases h
      exact ⟨Nat.succ_pos _, .inl ⟨congrArg some k, rfl⟩⟩
    · rw [if_neg k] at h
      have passed : (e :: rest).head?.map (·.bypass) ≠ some m := fun c => k (Option.some.inj c)
      rcases Option.or_eq_some_iff.mp h with hV | ⟨noV, h⟩
      · obtain ⟨hi, port, before⟩ := oldestOf_some hV
        exact ⟨hi, .inr ⟨passed, port ▸ before, fun c => absurd port c, fun c => nomatch port.symm.trans c⟩⟩
      · rcases Option.or_eq_some_iff.mp h with hC | ⟨noC, hP⟩
        · obtain ⟨hi, port, before⟩ := oldestOf_some hC
          exact ⟨hi, .inr ⟨passed, port ▸ before, fun _ => oldestOf_none noV, fun c => nomatch port.symm.trans c⟩⟩
        · obtain ⟨hi, port, before⟩ := oldestOf_some hP
          exact ⟨hi, .inr ⟨passed, port ▸ before, fun _ => oldestOf_none noV, fun _ => oldestOf_none noC⟩⟩

/-- An entry stands at the front, or one of the three ports has an oldest entry. -/
theorem takePlace_isSome (m : Nat) {q : List QueueEntry} (h : q ≠ []) : takePlace m q ≠ none := by
  cases q with
  | nil => exact absurd rfl h
  | cons e rest =>
    intro none
    rw [takePlace] at none
    split at none
    · cases none
    · obtain ⟨noV, others⟩ := Option.or_eq_none_iff.mp none
      obtain ⟨noC, noP⟩ := Option.or_eq_none_iff.mp others
      have mem : e ∈ e :: rest := List.mem_cons_self
      cases port : e.port with
      | V => exact oldestOf_none noV e mem port
      | C => exact oldestOf_none noC e mem port
      | P => exact oldestOf_none noP e mem port

/-- Settles O29: the place taken splits the queue into the older entries, the entry and the younger ones. -/
theorem nextEntryChosen : Obligations.NextEntryChosen := by
  intro s free some_entry
  obtain ⟨i, place⟩ := Option.ne_none_iff_exists'.mp (takePlace_isSome s.settings.bypassMax some_entry)
  obtain ⟨hi, served⟩ := takePlace_some place
  refine ⟨s.queue.entries.take i, s.queue.entries.drop (i + 1), s.queue.entries[i], ?_, ?_, ?_⟩
  · rw [List.cons_getElem_drop_succ, List.take_append_drop]
  · simp only [takeNext, free, place, List.getElem?_eq_getElem hi, takenQueue]
  · exact served.imp_left fun k => ⟨k.1, by rw [k.2]; rfl⟩

/-! ### A winner that appears or becomes absent (R133) -/

/-- But for a LIVE zone that falls silent at once, a new set leaves a zone's power as the notice does. -/
theorem routed_eq {z : Zone} {new : List RouteEntry}
    (h : (s.powerOf z).onWinner (s.drainTime z) (s.winner z) new.head? = .live → new ≠ []) :
    s.routed z new = (s.powerOf z).onWinner (s.drainTime z) (s.winner z) new.head? := by
  unfold State.routed
  split
  · next same => rw [same]; exact (if_pos rfl).symm
  · exact if_neg fun c => h c.2.1 c.2.2.2

/-- A power state a new set leaves, by the state before, where the winner appears or is gone. -/
theorem powerOf_setRoutes_same {z : Zone} {new : List RouteEntry} {p q : PowerState} (hp : s.powerOf z = p)
    (hq : p.onWinner (s.drainTime z) (s.winner z) new.head? = q) (h : q = .live → new ≠ []) :
    (setRoutes z new s).powerOf z = q := by
  subst hp hq
  rw [powerOf_setRoutes, if_pos rfl, routed_eq h]

theorem isSome_head {α : Type} {q : List α} : q.head?.isSome = true ↔ q ≠ [] := by
  cases q <;> simp

set_option Elab.async true in
/-- Settles O45: the table of R133, clause by clause. -/
theorem powerFollowsWinner : Obligations.PowerFollowsWinner := by
  intro z new s old t drain
  have time : s.drainTime z = drain := rfl
  have was : s.winner z = old.head? := rfl
  have entries : (t.zone z).route.entries = new := by rw [setRoutes_route, if_pos rfl]
  refine ⟨entries, fun p a b => ?_, fun p a b => ?_, fun n p a b => ?_, fun n p b => ?_, fun p b => ?_,
    fun d n p a b => ?_, fun p => ?_, fun y hy => ?_⟩
  · exact powerOf_setRoutes_same p (by rw [was, a, PowerState.onWinner, isSome_head.mpr b]; rfl) fun _ => b
  · exact powerOf_setRoutes_same p (by rw [was, b, PowerState.onWinner, isSome_head.mpr a]; rfl) nofun
  · exact powerOf_setRoutes_same p (by rw [was, b, time, PowerState.onWinner, isSome_head.mpr a]; rfl) nofun
  · exact powerOf_setRoutes_same p (by rw [PowerState.onWinner, isSome_head.mpr b]; exact ite_self _) fun _ => b
  · exact powerOf_setRoutes_same p (ite_self _) fun _ => b
  · exact powerOf_setRoutes_same p (by rw [was, a, PowerState.onWinner, isSome_head.mpr b]; rfl) fun _ => b
  · exact powerOf_setRoutes_same p (ite_self _) nofun
  · rw [powerOf_setRoutes, if_neg hy]

end Sys2Proof.Machine
end

section
/-! PROOFS. A command taken by its link, the events raised with it, and the commands whose effect is one field: the store's
fault record and overrides (R167, R168), the clip counters (R108), the supervision timer (R179 to R181). -/

namespace Sys2Proof.Machine

-- One theorem at a time, and a long one, marked, on a thread of its own: the compile has 22 GiB. The two linters do
-- not see into such a proof.
set_option Elab.async false
set_option linter.unusedTactic false
set_option linter.unreachableTactic false

variable {s t : State} {l : List Part}

/-- A command of a port that may issue it, taken after start-up by an idle link, is carried out (R188, R189). -/
theorem Takes.exec {i : Instr} {p : Port} {code : Nat} {b : Bool} {f : State → State} (h : Takes s p)
    (port : commandPort i = some p) (may : b = true) (run : runCommand i s = .next (guarded s p code b f)) :
    Machine.exec i s = .next (f s) := by
  rw [exec_command i p port, atTurn_idle h.2, run, may, guarded_passed h.1]

/-- An answer after an effect that leaves the ports alone. -/
theorem answer_says (h : t.ports = s.ports) (p : Port) (code : Nat) (r : Result) (b : List Byte) :
    Says s (t.answer p code r b) p code r b := by
  simp only [Says, State.answer, State.respond, State.updLink, State.updPort, h]

/-! ### Events (R182) -/

set_option Elab.async true in
theorem raise_notes (s : State) (p q : Port) (d : Detail) (k : Fin 16) : ((s.raise p d).notes q)[k] =
    if q = p ∧ k = d.kind then ((s.notes p)[k]).hit d else (s.notes q)[k] := by
  by_cases h : q = p
  · subst h
    rw [State.notes, State.raise, State.port_updPort_same]
    by_cases e : k = d.kind
    · subst e
      rw [if_pos ⟨rfl, rfl⟩]
      exact Vector.getElem_set_self ..
    · rw [if_neg fun c => e c.2]
      exact Vector.getElem_set_ne d.kind.isLt k.isLt fun c => e (Fin.ext c.symm)
  · rw [if_neg fun c => h c.1, State.notes, State.raise, State.port_updPort_other _ _ h, State.notes]

theorem raise_flagged (s : State) (p : Port) (d : Detail) : Flagged s (s.raise p d) p d :=
  (raise_notes s p p d d.kind).trans (if_pos ⟨rfl, rfl⟩)

/-- An event raised to ports P and C is flagged at both. -/
theorem raiseAll_flagged (s : State) (d : Detail) :
    Flagged s (s.raiseAll [.P, .C] d) .P d ∧ Flagged s (s.raiseAll [.P, .C] d) .C d :=
  ⟨(raise_notes (s.raise .P d) .C .P d d.kind).trans ((if_neg nofun).trans (raise_flagged s .P d)),
    (raise_flagged (s.raise .P d) .C d).trans
      (congrArg (·.hit d) ((raise_notes s .P .C d d.kind).trans (if_neg nofun)))⟩

theorem Flagged.answer {p q : Port} {d : Detail} (h : Flagged s t p d) (code : Nat) (r : Result) (b : List Byte) :
    Flagged s (t.answer q code r b) p d := by
  rw [Flagged, State.answer_notes]
  exact h

/-! ### Events of a frame mark (log entry 5) -/

/-- An event of a frame mark that is due, after its FRAME_MARK or before it. -/
theorem told_due {f : State → State} {c d : Prop} [Decidable c] [Decidable d] (h : c ∨ d) :
    (if c then f s else if d then f { s with atMark := true } else s) =
      f { s with atMark := s.atMark || decide ¬ c } := by
  by_cases hc : c
  · rw [if_pos hc, decide_eq_false (not_not_intro hc), Bool.or_false]
  · rw [if_neg hc, if_pos (h.resolve_left hc), decide_eq_true hc, Bool.or_true]

/-! ### The store's faults and overrides, and the clip counters -/

/-- An update taken once or twice alike, made in a list of zones. -/
theorem State.eachOf_updZone {f : ZoneState → ZoneState} (twice : ∀ x, f (f x) = f x) (zs : List Zone) (y : Zone)
    (s : State) : (s.eachOf zs fun z s => s.updZone z f).zone y = if y ∈ zs then f (s.zone y) else s.zone y := by
  induction zs generalizing s with
  | nil => rfl
  | cons z zs ih =>
    refine (ih (s.updZone z f)).trans ?_
    by_cases h : y = z
    · subst h
      rw [State.zone_updZone_same, if_pos List.mem_cons_self, twice, ite_self]
    · rw [State.zone_updZone_other _ _ h]
      exact if_congr (by simp [h]) rfl rfl

set_option Elab.async true in
/-- Settles O37: each command is its one update, and its answer. -/
theorem commandsClear : Obligations.CommandsClear := by
  refine ⟨fun p zones s hp takes len names => ?_, fun s => ⟨fun p takes may => ?_, fun takes => ⟨?_, ?_⟩⟩⟩
  · have names := zoneSet_some len names
    refine ⟨_, takes.exec (b := decide (p ≠ .V)) rfl (decide_eq_true hp) rfl, fun z => ?_, ?_⟩
    · rw [names, checked_some, State.answer_zone]
      refine (State.eachOf_updZone (f := fun x => { x with gain := { x.gain with clip := 0 } }) (fun _ => rfl) _ z s).trans
        (if_congr ?_ rfl rfl)
      rw [List.mem_filter, decide_eq_true_iff, and_iff_right (mem_allZones z)]
    · rw [names, checked_some]
      exact answer_says ((Only.eachOf (l := [.gain]) _ _ (fun z s => updGain_only s z _) s).same .ports (by decide)).symm ..
  · have permitted : mayClearFaults p s.store.fault = true := by
      rcases may with rfl | ⟨rfl, f, fault, low, high⟩
      · rfl
      · rw [fault]
        exact decide_eq_true ⟨low, high⟩
    exact Eq.trans (takes.exec rfl permitted rfl) rfl
  · exact Eq.trans (takes.exec rfl rfl rfl) rfl
  · exact Eq.trans (takes.exec rfl rfl rfl) rfl

/-! ### The supervision of port V -/

/-- An event of the supervision where there is one, and the state it is raised in. -/
theorem told_supervision {c : Prop} [Decidable c] {u : State} (d : Detail) (ports : u.ports = s.ports) :
    let t := if c then u.raiseAll [.P, .C] d else u
    t.supervision = u.supervision ∧ (c → Flagged s t .P d ∧ Flagged s t .C d) ∧
      (¬ c → t.notes .P = s.notes .P ∧ t.notes .C = s.notes .C) := by
  have notes : ∀ p, u.notes p = s.notes p := fun p => by rw [State.notes, State.port, ports]; rfl
  dsimp only
  by_cases h : c
  · rw [if_pos h]
    refine ⟨rfl, fun _ => ?_, fun k => absurd h k⟩
    rw [Flagged, Flagged, ← notes, ← notes]
    exact raiseAll_flagged u d
  · rw [if_neg h]
    exact ⟨rfl, fun k => absurd k h, fun _ => ⟨notes .P, notes .C⟩⟩

set_option Elab.async true in
/-- Settles O50: the timer set, stopped or lost, and the event that says so. -/
theorem supervisionWatches : Obligations.SupervisionWatches := by
  refine fun s => ⟨fun x takes => ?_, fun takes => ?_, fun due => ?_⟩
  · have told := told_supervision (s := s) (c := s.supervision.watch = .lost)
      (u := { s with supervision := ⟨.watching (superviseTimeout s.supervision.timeout x),
        superviseTimeout s.supervision.timeout x, s.atMark⟩ })
      (.supervision .restored (superviseTimeout s.supervision.timeout x)) rfl
    refine ⟨_, takes.exec rfl rfl rfl, told.1, ?_, fun h => ?_, fun h => ?_, ?_⟩
    · exact decide_eq_false fun lost => nomatch (congrArg Supervision.watch told.1).symm.trans lost
    · exact ⟨(told.2.1 h).1.answer .., (told.2.1 h).2.answer ..⟩
    · rw [State.answer_notes, State.answer_notes]
      exact told.2.2 h
    · simp only [← inRange_iff]
      exact answer_replies ..
  · have told := told_supervision (s := s) (c := s.supervision.watch = .lost)
      (u := { s with supervision := { s.supervision with watch := .off } })
      (.supervision .ended s.supervision.timeout) rfl
    refine ⟨_, takes.exec rfl rfl rfl, told.1, ?_, fun h => ?_, answer_replies ..⟩
    · exact decide_eq_false fun lost => nomatch (congrArg Supervision.watch told.1).symm.trans lost
    · exact ⟨(told.2.1 h).1.answer .., (told.2.1 h).2.answer ..⟩
  · have told := told_supervision (s := s) (c := True)
      (u := { s with
        supervision := { s.supervision with watch := .lost }, atMark := s.atMark || decide ¬ supervisionDue s = true })
      (.supervision .lost s.supervision.timeout) rfl
    have due : supervisionDue s = true ∨ supervisionDueNext s = true := due.imp decide_eq_true fun next => by
      simp [supervisionDueNext, State.frameOver, next, Config.samplesPerFrame]
    exact ⟨_, congrArg Host.Outcome.next (told_due due), told.1, rfl, told.2.1 trivial⟩

end Sys2Proof.Machine
end

section
/-! PROOFS. What the read commands report (R14, R34, R56, R73, R90, R109, R128, R142, R158, R173, R183, R191, R192). -/

namespace Sys2Proof.Machine

-- One theorem at a time, and a long one, marked, on a thread of its own: the compile has 22 GiB. The two linters do
-- not see into such a proof.
set_option Elab.async false
set_option linter.unusedTactic false
set_option linter.unreachableTactic false

variable {s t : State} {l : List Part}

/-- A list is empty where it equals the empty list. -/
theorem not_isEmpty_eq {α : Type} [DecidableEq α] (q : List α) : (!q.isEmpty) = decide (q ≠ []) := by
  cases q <;> rfl

set_option Elab.async true in
/-- The entries of ports P and C together are those of P and those of C (R18). -/
theorem countPC_add (q : ChangeQueue) : q.countPC = q.countOf .P + q.countOf .C := by
  unfold ChangeQueue.countPC ChangeQueue.countOf
  induction q.entries with
  | nil => rfl
  | cons e rest ih =>
    simp only [ne_eq, decide_not] at ih
    cases h : e.port <;> simp [h, ih] <;> omega

set_option Elab.async true in
/-- The free pages are those in no zone's range (R60). -/
theorem freePages_eq (s : State) : s.freePages = freePagesOf s := by
  refine List.filter_congr fun n _ => Bool.eq_iff_iff.mpr ?_
  rw [State.pageFree, List.all_eq_true, decide_eq_true_iff]
  refine ⟨fun h z => ?_, fun h z _ => ?_⟩
  · have k := h z (mem_allZones z)
    cases e : (s.active z).allocation with
    | none => rfl
    | some a => simp [e] at k ⊢; omega
  · have k := h z
    cases e : (s.active z).allocation with
    | none => rfl
    | some a => simp [e] at k ⊢; omega

/-- A byte that is one of two, by a condition (R190). -/
theorem bNum1_ite (b : Bool) (m n : Nat) : bNum1 (if b then m else n) = [if b then byteOf m else byteOf n] := by
  cases b <;> rfl

set_option Elab.async true in
/-- Settles O26: each report is the payload of its answer, once both name what they count alike. -/
theorem readsAnswer : Obligations.ReadsAnswer := by
  intro i p code report s reads takes
  cases reads with
  | record hz hc =>
    refine Eq.trans (takes.exec rfl rfl rfl) ?_
    simp only [hz, hc, checked_some, bNum1_ite, TableEntry.dirty, not_isEmpty_eq]
    rfl
  | queue =>
    refine Eq.trans (takes.exec rfl rfl rfl) ?_
    rw [countPC_add, bNum1_ite]
    rfl
  | targets h | routes h | chain h | power h =>
    refine Eq.trans (takes.exec rfl rfl rfl) ?_
    rw [h]
    rfl
  | delayMap =>
    refine Eq.trans (takes.exec rfl rfl rfl) ?_
    rw [freePages_eq]
    rfl
  | sensors =>
    refine Eq.trans (takes.exec rfl rfl rfl) ?_
    rw [bNum1_ite]
    rfl
  | probe | store | system => exact Eq.trans (takes.exec rfl rfl rfl) rfl
  | notes =>
    have flags : s.setFlags p = allKinds.filter fun k => decide ((s.notes p)[k].detail ≠ none) :=
      List.filter_congr fun k _ => by cases (s.notes p)[k].detail <;> rfl
    refine Eq.trans (takes.exec rfl rfl rfl) ?_
    rw [flags]
    rfl
  | status =>
    refine Eq.trans (takes.exec rfl rfl rfl) ?_
    simp only [State.faultLine, not_isEmpty_eq]
    rfl

end Sys2Proof.Machine
end

section
/-! PROOFS. ALLOCATE (R61, R62) and ENABLE_ZONE (R131): what a direct write of the table leaves of every zone. -/

namespace Sys2Proof.Machine

-- One theorem at a time, and a long one, marked, on a thread of its own: the compile has 22 GiB. The two linters do
-- not see into such a proof.
set_option Elab.async false
set_option linter.unusedTactic false
set_option linter.unreachableTactic false

variable {s t : State} {l : List Part}

/-- A change of target fields and ports leaves every zone as it was, but for its target fields. -/
theorem Only.zone_target (k : Only [.target, .ports] s t) (y : Zone) :
    { t.zone y with target := (s.zone y).target } = s.zone y := by
  dsimp only
  rw [← k.same .entry (by decide) y, ← k.same .line (by decide) y, ← k.same .eq (by decide) y,
    ← k.same .gain (by decide) y, ← k.same .route (by decide) y, ← k.same .power (by decide) y]

/-- A direct write asks for no bank change (R12, R97): what it does beside the write is a computation. -/
theorem directWrite_eq {g : FieldGroup} (hg : g = .enable ∨ g = .allocation) (z : Zone) (f : ZoneRecord → ZoneRecord)
    (s : State) : directWrite z g f s = targetNotice z [g] (writeBoth z f s) :=
  if_neg (by rcases hg with rfl | rfl <;> simp [asksBankChange])

theorem directWrite_zone {g : FieldGroup} (hg : g = .enable ∨ g = .allocation) {z y : Zone} (h : y ≠ z)
    (f : ZoneRecord → ZoneRecord) (s : State) :
    { (directWrite z g f s).zone y with target := (s.zone y).target } = s.zone y := by
  have before : (writeBoth z f s).zone y = s.zone y := State.zone_updZone_other _ _ h
  have noticed := (targetNotice_only z [g] (writeBoth z f s)).zone_target y
  rw [before, ← directWrite_eq hg] at noticed
  exact noticed

/-- The capacity and the target of the zone a direct write names (R46 to R48). -/
theorem directWrite_own {g : FieldGroup} (hg : g = .enable ∨ g = .allocation) (z : Zone) (f : ZoneRecord → ZoneRecord)
    (s : State) : ((directWrite z g f s).zone z).Targeted :=
  changeNotice_targeted z z [g] (s.active z) _ (.inr ⟨rfl, hg.imp (fun k => by simp [k]) fun k => by simp [k]⟩)

/-- The zone found is another one, whose allocation shares a page with the one asked for. -/
theorem overlapped_some {z : Zone} {a : Allocation} {x : Zone × Allocation} (h : overlapped s z a = some x) :
    x.1 ≠ z ∧ (s.active x.1).allocation = some x.2 ∧ a.overlaps x.2 = true := by
  obtain ⟨y, hy, found⟩ := List.exists_of_findSome?_eq_some h
  cases e : (s.active y).allocation with
  | none => rw [e] at found; cases found
  | some b =>
    simp only [e, Option.ite_none_right_eq_some, Option.some.injEq] at found
    obtain ⟨shares, rfl⟩ := found
    exact ⟨of_decide_eq_true (List.mem_filter.mp hy).2, e, shares⟩

theorem checkOption_all {α β : Type} {f : α → Option β} {g : α → β} {a : Option α} (h : ∀ x, a = some x → f x = some (g x)) :
    checkOption f a = some (a.map g) := by
  cases a with
  | none => rfl
  | some x => rw [checkOption, h x rfl]; rfl

set_option Elab.async true in
/-- Settles O36: the checks of R61 in order, and the direct write of R12. -/
theorem allocateWrites : Obligations.AllocateWrites := by
  intro z arg s takes ranged new
  have within : checkOption allocationOf arg = some new := checkOption_all fun a e => if_pos (ranged a e)
  refine ⟨fun off idle apart => ?_, fun off shared => ?_, fun on => ?_⟩
  · have free : new.bind (overlapped s z) = none := by
      refine Option.eq_none_iff_forall_ne_some.mpr fun x found => ?_
      obtain ⟨a, ha, found⟩ := Option.bind_eq_some_iff.mp found
      obtain ⟨other, has, shares⟩ := overlapped_some found
      exact absurd shares (by rw [apart x.1 x.2 a other has ha]; decide)
    have entry := directWrite_entry z z .allocation (fun r => { r with allocation := new }) s
    have own := directWrite_own (.inr rfl) z (fun r => { r with allocation := new }) s
    have only := directWrite_only z .allocation (fun r => { r with allocation := new }) s
    have others := fun y (hy : y ≠ z) => directWrite_zone (.inr rfl) hy (fun r => { r with allocation := new }) s
    rw [if_pos rfl] at entry
    refine ⟨(directWrite z .allocation (fun r => { r with allocation := new }) s).answer .C 0x0B .ok
      (bZone z ++ bAllocation new ++ bNat (capacity new)), Eq.trans (takes.exec rfl rfl rfl) ?_, ?_⟩
    · rw [zoneOf_val, checked_some, within, checked_some, if_neg (not_not_intro off), free]
    · generalize directWrite z .allocation (fun r => { r with allocation := new }) s = t at *
      exact ⟨entry, own.cap.trans (by rw [entry]; rfl), own.off (by rw [entry]; exact idle),
        (only.same .mem (by decide)).symm, (only.same .line (by decide) z).symm,
        (only.same .route (by decide) z).symm, others, answer_replies ..⟩
  · obtain ⟨y, b, a, other, has, ha, shares⟩ := shared
    cases found : new.bind (overlapped s z) with
    | none =>
      rw [ha] at found
      exact absurd shares (by rw [overlapped_none found other has]; decide)
    | some x =>
      refine ⟨bZone x.1 ++ bytes2 x.2.base ++ bytes2 x.2.count, Eq.trans (takes.exec rfl rfl rfl) ?_⟩
      rw [zoneOf_val, checked_some, within, checked_some, if_neg (not_not_intro off), found]
  · refine Eq.trans (takes.exec rfl rfl rfl) ?_
    rw [zoneOf_val, checked_some, within, checked_some, if_pos on]

/-! ### ENABLE_ZONE (R131) -/

/-- A zone that is not heard takes another power state in service: its power unit and its gain change alone. -/
theorem setPower_quiet {z : Zone} {p : PowerState} (h : (s.powerOf z).heard = false) (hp : p.inService = true) :
    setPower z p s = (s.updPower z fun _ => { state := p, framesInState := 0, fresh := s.atMark }).updGain z fun g =>
      g.onPower (s.powerOf z) p s.sampleIndex :=
  (if_pos hp).trans (if_neg fun k => by rw [h] at k; cases k.1)

/-- A record computation of an enabled zone takes its target from R, limited (R47, R49). -/
theorem compute_candidate (b : Bool) {z : Zone} (on : (s.active z).enabled = true) :
    ((compute .record b z s).zone z).target.tgt =
      candidate ((compute .record b z s).zone z).target.raw ((compute .record b z s).zone z).target.cap := by
  have one : ∀ y u, (u.active z).enabled = true ∧ (y = z ∨
      (u.zone z).target.tgt = candidate (u.zone z).target.raw (u.zone z).target.cap) →
      ((computeOne .record y u).active z).enabled = true ∧ ((computeOne .record y u).zone z).target.tgt =
        candidate ((computeOne .record y u).zone z).target.raw ((computeOne .record y u).zone z).target.cap := by
    intro y u ⟨on, h⟩
    refine ⟨by rwa [State.active, ← (computeOne_only .record y u).same .entry (by decide) z], ?_⟩
    rw [computeOne_zone]
    split
    · next e =>
      subst e
      rw [on]
      rfl
    · next e => exact h.resolve_left fun k => e k.symm
  have first := one z s ⟨on, .inl rfl⟩
  unfold compute
  dsimp only
  split
  · exact (State.eachOf_keeps (P := fun u => (u.active z).enabled = true ∧
      (u.zone z).target.tgt = candidate (u.zone z).target.raw (u.zone z).target.cap) _ _
      (fun y u k => one y u ⟨k.1, .inr k.2⟩) _ first).2
  · exact first.2

theorem directWrite_candidate {z : Zone} {f : ZoneRecord → ZoneRecord} (on : (f (s.active z)).enabled = true) :
    ((directWrite z .enable f s).zone z).target.tgt = candidate ((directWrite z .enable f s).zone z).target.raw
      ((directWrite z .enable f s).zone z).target.cap := by
  rw [directWrite_eq (.inl rfl), targetNotice, if_pos List.mem_cons_self]
  refine compute_candidate true ?_
  rw [State.active, writeBoth, entry_updEntry, if_pos rfl]
  exact on

theorem candidate_eq (r : Int) (n : Nat) : (candidate r n : Int) = max 0 (min (n : Int) r) :=
  Int.toNat_of_nonneg (le_max_left ..)

/-- What an ENABLE_ZONE does before the zone is PARKED (R131). -/
def enableReady (z : Zone) (s : State) : State :=
  let s := directWrite z .enable (fun r => { r with enabled := true }) s
  let s := clearLine z s
  let s := s.updLine z fun l => { l with dCur := (s.zone z).target.tgt }
  let s := eqSetUp z s
  s.updRoute z fun r => { r with entries := [], fade := .atRest none }

theorem enableReady_only (z : Zone) (s : State) :
    Only [.entry, .target, .ports, .eq, .eqWait, .line, .mem, .route] s (enableReady z s) := by
  unfold enableReady
  dsimp only
  refine Only.trans ?_ ((updRoute_only ..).mono rfl)
  refine Only.trans ?_ ((eqSetUp_only ..).mono rfl)
  refine Only.trans ?_ ((updLine_only ..).mono rfl)
  exact ((directWrite_only ..).mono rfl).trans ((clearLine_only ..).mono rfl)

/-- An ENABLE_ZONE of a DISABLED zone: PARKED at the end, with its gain at rest (R105, R131). -/
theorem enableZone_ready {z : Zone} (off : s.powerOf z = .disabled) : enableZone z s =
    ((enableReady z s).updPower z fun _ => { state := .parked, framesInState := 0, fresh := (enableReady z s).atMark }).updGain z
      fun g => g.onPower ((enableReady z s).powerOf z) .parked (enableReady z s).sampleIndex := by
  have quiet : ((enableReady z s).powerOf z).heard = false := by
    rw [(enableReady_only z s).powerOf (by decide), off]
    rfl
  rw [← setPower_quiet quiet rfl, enableZone, enableReady]

theorem Elsewhere.updZone {z : Zone} (h : Elsewhere z s t) (f : ZoneState → ZoneState) : Elsewhere z s (t.updZone z f) :=
  fun y hy => (State.zone_updZone_other t f hy).trans (h y hy)

theorem enableZone_zone {z y : Zone} (off : s.powerOf z = .disabled) (hy : y ≠ z) :
    { (enableZone z s).zone y with target := (s.zone y).target } = s.zone y := by
  have power : ∀ t u f, Elsewhere z t u → Elsewhere z t (u.updPower z f) := fun _ _ _ h => h.updZone _
  have gain : ∀ t u f, Elsewhere z t u → Elsewhere z t (u.updGain z f) := fun _ _ _ h => h.updZone _
  have route : ∀ t u f, Elsewhere z t u → Elsewhere z t (u.updRoute z f) := fun _ _ _ h => h.updZone _
  have line : ∀ t u f, Elsewhere z t u → Elsewhere z t (u.updLine z f) := fun _ _ _ h => h.updZone _
  have setUp : ∀ t u, Elsewhere z t u → Elsewhere z t (eqSetUp z u) := fun _ _ h => h.updZone _
  have cleared : ∀ t, Elsewhere z t (clearLine z t) := fun t => by
    refine line t _ _ fun y _ => ?_
    split <;> rfl
  have other : Elsewhere z (directWrite z .enable (fun r => { r with enabled := true }) s) (enableZone z s) := by
    rw [enableZone_ready off]
    refine gain _ _ _ (power _ _ _ ?_)
    unfold enableReady
    exact route _ _ _ (setUp _ _ (line _ _ _ (cleared _)))
  rw [other y hy]
  exact directWrite_zone (.inl rfl) hy _ s

/-- The cascade set up and the line cleared by an ENABLE_ZONE (R64, R102). -/
theorem enableZone_ready_eq {z : Zone} (off : s.powerOf z = .disabled) : ((enableZone z s).zone z).eq =
    { mode := .steady, running := Cascade.setUp (s.active z) } := by
  have entry := directWrite_entry z z .enable (fun r => { r with enabled := true }) s
  have cleared := (clearLine_only z (directWrite z .enable (fun r => { r with enabled := true }) s)).same .entry (by decide) z
  rw [enableZone_ready off, ← (updGain_only ..).same .eq (by decide) z, ← (updPower_only ..).same .eq (by decide) z,
    enableReady, ← (updRoute_only ..).same .eq (by decide) z, eqSetUp, updEq_eq, if_pos rfl, State.active,
    ← (updLine_only ..).same .entry (by decide) z, ← cleared, entry, if_pos rfl]
  rfl

theorem enableZone_mem {z : Zone} {a : Allocation} (off : s.powerOf z = .disabled)
    (alloc : (s.active z).allocation = some a) : (enableZone z s).mem = memClear s.mem (a.base * 1024) (a.count * 1024) := by
  have entry := directWrite_entry z z .enable (fun r => { r with enabled := true }) s
  have mem : s.mem = _ := (directWrite_only z .enable (fun r => { r with enabled := true }) s).same .mem (by decide)
  have now : ((directWrite z .enable (fun r => { r with enabled := true }) s).active z).allocation = some a := by
    rw [State.active, entry, if_pos rfl]
    exact alloc
  rw [enableZone_ready off, State.updGain_mem, State.updPower_mem, enableReady, State.updRoute_mem, eqSetUp,
    State.updEq_mem, State.updLine_mem, clearLine, State.updLine_mem, now, mem]
  simp only [lineAddress, Config.pageSamples, Nat.add_zero]

/-- The target of a zone taken into service (R46, R47). -/
theorem enableZone_target {z : Zone} {a : Allocation} (alloc : (s.active z).allocation = some a) :
    ((enableZone z s).zone z).target.cap = capacity (some a) ∧ (((enableZone z s).zone z).target.tgt : Int) =
      max 0 (min (capacity (some a) : Int) ((enableZone z s).zone z).target.raw) := by
  have own := (directWrite_own (.inl rfl) z (fun r => { r with enabled := true }) s).cap
  have tgt := directWrite_candidate (s := s) (z := z) (f := fun r => { r with enabled := true }) rfl
  rw [directWrite_entry, if_pos rfl] at own
  have cap := own.trans (congrArg capacity alloc)
  rw [← (enableZone_rest z s).same .target (by decide) z]
  exact ⟨cap, by rw [tgt, cap, candidate_eq]⟩

set_option Elab.async true in
/-- Settles O47: the checks of R131 in order, and its effects block by block. -/
theorem zoneEnabled : Obligations.ZoneEnabled := by
  intro z s takes
  refine ⟨fun a off alloc => ?_, fun off bare => ?_, fun on => ?_⟩
  · have power := powerOf_enableZone z z s
    have entry := enableZone_entry z z s
    have line := enableZone_line z z s
    have route := enableZone_route z z s
    rw [if_pos rfl] at power entry line route
    have target := enableZone_target alloc
    have setUp := enableZone_ready_eq off
    have mem := enableZone_mem off alloc
    have others := fun y (hy : y ≠ z) => enableZone_zone off hy
    refine ⟨(enableZone z s).answer .C 0x17 .ok (bZone z ++ bAllocation ((enableZone z s).active z).allocation ++
      bNat ((enableZone z s).zone z).target.tgt), Eq.trans (takes.exec rfl rfl rfl) ?_, ?_⟩
    · rw [zoneOf_val, checked_some, if_neg (not_not_intro off), if_neg (by rw [alloc]; nofun)]
    · generalize enableZone z s = t at *
      refine ⟨power, entry, target.1, target.2, line, setUp, route, fun k lo hi => ?_, fun k out => ?_, others,
        answer_replies ..⟩
      · exact (congrArg (memRead · k) mem).trans (memRead_memClear_in _ ⟨lo, hi⟩)
      · exact (congrArg (memRead · k) mem).trans (memRead_memClear_out _ out)
  · refine Eq.trans (takes.exec rfl rfl rfl) ?_
    rw [zoneOf_val, checked_some, if_neg (not_not_intro off), if_pos bare]
  · refine ⟨bZone z ++ bAllocation (s.active z).allocation ++ bNat (s.zone z).target.tgt,
      Eq.trans (takes.exec rfl rfl rfl) ?_⟩
    rw [zoneOf_val, checked_some, if_pos on]

end Sys2Proof.Machine
end

section
/-! PROOFS. The state right after a cold reset of a part whose store has never been written (log entry 1). -/

namespace Sys2Proof.Machine

-- One theorem at a time: theorems elaborated at once take a thread with its own stack each.
set_option Elab.async false

/-- After a reset every zone is at its initial values. -/
theorem reset_zone (z : Zone) : State.reset.zone z = ZoneState.initial := by
  simp [State.zone, State.reset]

theorem reset_zones {P : ZoneState → Prop} (h : P ZoneState.initial) (z : Zone) : P (State.reset.zone z) :=
  (reset_zone z).symm ▸ h

theorem reset_sectors {P : Sector → Prop} (h : P Sector.factory) (n : SectorNo) : P (State.reset.sector n) := by
  simpa [State.sector, State.reset, StoreUnit.afterReset] using h

theorem reset_sensors {P : SensorRecord → Prop} (h : P (SensorRecord.initial false)) (n : Fin 8) :
    P (State.reset.sensor n) := by
  simpa [State.sensor, State.reset] using h

theorem reset_dormant : Dormant State.reset := fun _ => reset_zones (P := fun x => x.power.state = .disabled) rfl

theorem reset_shared : AllocationInv State.reset ∧ MapInv State.reset := by
  have none : ∀ z, (State.reset.active z).allocation = none :=
    reset_zones (P := fun x => x.entry.active.allocation = Option.none) rfl
  have both := reset_zones (P := fun x => x.entry.shadow.allocation = x.entry.active.allocation) rfl
  exact (mapped_iff _).mpr ⟨both, fun z _ e => (nomatch (none z).symm.trans e),
    fun y _ _ _ _ e => (nomatch (none y).symm.trans e)⟩

theorem reset_delays : DelayInv State.reset :=
  (delayInv_iff _).mpr ⟨(serviceInv_iff _).mpr (reset_zones initial_served),
    reset_zones (P := fun x => x.Targeted ∧ x.Lined) ⟨initial_targeted, initial_lined⟩, reset_dormant⟩

theorem reset_ranges : RangeInv State.reset := by
  have records := reset_zones (P := fun x => x.entry.Within) ⟨default_within, default_within⟩
  have sectors := reset_sectors (P := fun x => x.contents.within = true) rfl
  have settings : Settings.default.within = true := by decide
  have idle : State.reset.store.op = none := rfl
  exact (rangeInv_iff _).mpr ⟨records, ChangeQueue.holds_empty, ⟨sectors, fun _ e => (nomatch idle.symm.trans e)⟩, settings⟩

theorem reset_counters : NoteInv State.reset ∧ CounterInv State.reset := by
  obtain ⟨notes, buffers⟩ := (portsKept_iff _).mp reset_ports
  exact ⟨notes, (counterInv_iff _).mpr ⟨reset_zones initial_counted,
    ⟨reset_sensors (P := SensorRecord.Counted) (SensorRecord.initial_counted false), nofun⟩, reset_probe_counted,
    ⟨reset_sectors (P := fun x => x.eraseCount ≤ 65535) (Nat.zero_le _), Nat.zero_le _⟩, reset_supervision_counted, buffers⟩⟩

theorem reset_couplings : CouplingInv State.reset := by
  have none : ∀ z, (State.reset.shadow z).coupling = none :=
    reset_zones (P := fun x => x.entry.shadow.coupling = Option.none) rfl
  exact couplingInv_iff.mpr ⟨fun z _ e => (nomatch (none z).symm.trans e), ChangeQueue.holds_empty⟩

/-- Settles O14: every zone stands at its initial values, the lists are empty, and the settings are the defaults. -/
theorem resetMeetsInvariants : Obligations.ResetMeetsInvariants :=
  ⟨reset_memory_wf, reset_shared.1, reset_shared.2,
    reset_zones (P := fun x => x.entry.Tabled) ⟨.nil, fun _ h => absurd h List.not_mem_nil, fun g _ => g.agrees_refl _⟩, reset_delays, reset_ranges,
    reset_counters.1, reset_counters.2, queueInv_of_nil rfl, reset_couplings,
    routeInv_iff.mpr ⟨reset_zones ⟨⟨Nat.zero_le _, fun _ h => absurd h List.not_mem_nil, .nil⟩, rfl⟩, fun _ => rfl, reset_dormant⟩,
    fadeInv_iff.mpr ⟨reset_zones (ZoneState.faded_of_rest rfl rfl fun _ _ e => by cases e), reset_dormant⟩,
    eqInv_iff.mpr ⟨.steady (reset_zones (P := fun x => x.eq.mode.spot = .steady) rfl) rfl, reset_dormant⟩,
    ⟨reset_sensors (P := SensorRecord.Measured) (SensorRecord.measured_of_none rfl rfl), by decide,
      reset_zones (P := fun x => x.target.Estimated) ⟨by decide, nofun⟩⟩,
    fun z => sourced_of_initial (reset_zone z)⟩

end Sys2Proof.Machine
end

section
/-! PROOFS. CHANGE_COMPLETE (R30 to R33): a change that lands in the shadow records, and one that a check drops. -/

namespace Sys2Proof.Machine

-- One theorem at a time, and a long one, marked, on a thread of its own: the compile has 22 GiB. The two linters do
-- not see into such a proof.
set_option Elab.async false
set_option linter.unusedTactic false
set_option linter.unreachableTactic false

variable {s t : State} {l : List Part}

/-! ### The entry in hand completes -/

/-- The state with the frame mark told or not. -/
def State.told (s : State) (mark : Bool) : State := { s with atMark := mark }

/-- CHANGE_COMPLETE of an entry that has come to its frame mark, after its FRAME_MARK or before it (log entry 5). -/
theorem changeComplete_due {h : InHand} (hand : s.queue.hand = some h)
    (due : h.marks = 0 ∨ (s.sampleIndex = 48 ∧ h.marks = 1 ∧ h.fresh = false)) :
    exec .changeComplete s = .next (completeHand (s.told (s.atMark || decide (h.marks = 1)))) := by
  have now : changeDue s = decide (h.marks = 0) := by rw [changeDue, hand]
  have next : changeDueNext s = (s.frameOver && decide (h.marks = 1 ∧ h.fresh = false)) := by rw [changeDueNext, hand]
  have either : changeDue s = true ∨ changeDueNext s = true := by
    rw [now, next]
    exact due.imp decide_eq_true fun k => by simp [State.frameOver, k, Config.samplesPerFrame]
  have mark : decide ¬ changeDue s = true = decide (h.marks = 1) := by
    rw [now]
    rcases due with k | ⟨-, k, -⟩ <;> simp [k]
  exact congrArg Host.Outcome.next ((told_due either).trans (by rw [mark, State.told]))

/-- The apply unit gives up the entry in hand (R30). -/
def State.freed (s : State) : State := { s with queue := { s.queue with hand := none } }

theorem completeHand_some {h : InHand} (hand : s.queue.hand = some h) :
    completeHand s = takeNext (raiseDrained h.entry (landChange h.entry s).freed) := by
  rw [completeHand, hand]
  rfl

theorem landChange_dropped {e : QueueEntry} {r : DropReason} (drop : dropReason s e.zone e.change = some r) :
    landChange e s = s.raise e.port (.changeDropped e.zone e.change.kind r) := by
  rw [landChange, drop]

theorem landChange_lands {e : QueueEntry} (keep : dropReason s e.zone e.change = none) :
    landChange e s = writeChange e.change e.zone s := by
  rw [landChange, keep]

/-- What a taking does not touch. -/
theorem takeNext_rest (s : State) : (takeNext s).zones = s.zones ∧ (takeNext s).ports = s.ports := by
  rcases takeNext_cases s with e | ⟨i, hi, -, -, e⟩ <;> rw [e] <;> exact ⟨rfl, rfl⟩

set_option Elab.async true in
theorem raiseDrained_eq (e : QueueEntry) (s : State) : raiseDrained e s =
    if ∃ x ∈ s.queue.entries, x.port = e.port then s else s.raise e.port (.queueDrained e.zone e.change.kind) := by
  have none : s.queue.countOf e.port = 0 ↔ ¬ ∃ x ∈ s.queue.entries, x.port = e.port := by
    simp [ChangeQueue.countOf, List.filter_eq_nil_iff]
  rw [raiseDrained, if_congr none rfl rfl, ite_not]

/-! ### A change dropped (R31 to R33) -/

/-- A dropped entry: no zone changes, and CHANGE_DROPPED is raised (R33). -/
theorem completeHand_dropped {h : InHand} {r : DropReason} (hand : s.queue.hand = some h)
    (drop : dropReason s h.entry.zone h.entry.change = some r) : (completeHand s).zones = s.zones ∧
      Flagged s (completeHand s) h.entry.port (.changeDropped h.entry.zone h.entry.change.kind r) := by
  rw [completeHand_some hand, landChange_dropped drop]
  refine ⟨?_, ?_⟩
  · rw [(takeNext_rest _).1, raiseDrained_eq, apply_ite State.zones]
    exact ite_self _
  · have flagged := raise_flagged s h.entry.port (.changeDropped h.entry.zone h.entry.change.kind r)
    rw [Flagged, State.notes, State.port, (takeNext_rest _).2, raiseDrained_eq, apply_ite State.ports]
    split
    · exact flagged
    · exact (raise_notes _ _ _ _ _).trans ((if_neg fun c => nomatch c.2).trans flagged)

set_option Elab.async true in
/-- Settles O31: the drop of LOCKED stands before the coupling check. -/
theorem changeDropped : Obligations.ChangeDropped := by
  intro s h z hand due zone
  have falls : ∀ r, dropReason s (.one z) h.entry.change = some r → ∃ t, exec .changeComplete s = .next t ∧
      t.zones = s.zones ∧ Flagged s t h.entry.port (.changeDropped (.one z) h.entry.change.kind r) := fun r drop =>
    ⟨_, changeComplete_due hand due, zone ▸ completeHand_dropped
      (s := s.told (s.atMark || decide (h.marks = 1))) hand (zone ▸ drop)⟩
  refine ⟨fun kind lock => falls .locked ?_, fun k coupled free bad => ?_⟩
  · cases e : h.entry.change <;> rw [e] at kind <;> first
      | exact if_pos lock
      | rcases kind with k | k | k <;> cases k
  · have reason : badCoupling s z k.leader = true := by
      rcases bad with same | ⟨x, follows⟩ | ⟨y, x, other, follows, leads⟩
      · simp [badCoupling, same]
      · simp [badCoupling, follows]
      · simp only [badCoupling, Bool.or_eq_true, List.any_eq_true, Bool.and_eq_true, decide_eq_true_iff]
        exact .inr ⟨y, mem_allZones y, other, by rw [follows]; exact decide_eq_true leads⟩
    have := falls .badCoupling (by rw [coupled, dropReason, if_neg (ne_true_of_eq_false free)]; exact if_pos reason)
    rw [coupled] at this
    exact this

/-! ### A change that lands (R30, R33) -/

set_option Elab.async true in
/-- A change has groups, and its groups and those that were pending are all of the queue's (R8). -/
theorem Change.joined_groups (c : Change) (l : List FieldGroup) (g : FieldGroup) :
    g ∈ c.groups.foldr joinGroup l ↔ g ∈ queuedGroups ∧ (g ∈ c.groups ∨ g ∈ l) := by
  have folded : ∀ (x : FieldGroup) (m : List FieldGroup),
      g ∈ (x :: m).foldr joinGroup l ↔ g ∈ queuedGroups ∧ (g ∈ x :: m ∨ g ∈ l) := by
    intro x m
    induction m generalizing x with
    | nil => simp [mem_joinGroup]
    | cons y m ih => rw [List.foldr_cons, mem_joinGroup, ih, List.mem_cons (a := g) (b := x)]; tauto
  cases c <;> exact folded _ _

theorem zone_writeChange_other (c : Change) {w : ZoneTarget} {z : Zone} (h : ¬ (w = .all ∨ w = .one z)) :
    (writeChange c w s).zone z = s.zone z := by
  cases w with
  | all => exact absurd (.inl rfl) h
  | one y => exact State.zone_updZone_other s _ fun e => h (.inr (e ▸ rfl))

/-- What the apply unit takes depends on the queue, BYPASS_MAX and the frame mark alone. -/
theorem takeNext_takes (queue : s.queue = t.queue) (settings : s.settings = t.settings) (mark : s.atMark = t.atMark) :
    (takeNext s).queue = (takeNext t).queue := by
  rw [takeNext, takeNext, queue, settings, mark]
  split
  · split
    · rfl
    · exact queue
  · exact queue

theorem takeNext_empty (h : s.queue.entries = []) : takeNext s = s := by
  rcases takeNext_cases s with e | ⟨i, hi, -⟩
  · exact e
  · exact absurd (lt_of_lt_of_eq hi (congrArg List.length h)) (Nat.not_lt_zero i)

set_option Elab.async true in
/-- The parts of the state after an entry that no check drops. -/
theorem completeHand_lands {h : InHand} (hand : s.queue.hand = some h)
    (keep : dropReason s h.entry.zone h.entry.change = none) :
    (∀ z, (completeHand s).zone z = (writeChange h.entry.change h.entry.zone s).zone z) ∧
    (completeHand s).ports = (if ∃ x ∈ s.queue.entries, x.port = h.entry.port then s.ports
      else (s.raise h.entry.port (.queueDrained h.entry.zone h.entry.change.kind)).ports) ∧
    (completeHand s).queue = (takeNext s.freed).queue := by
  have frame := writeChange_only h.entry.change h.entry.zone s
  have queue : s.queue = (writeChange h.entry.change h.entry.zone s).queue := frame.same .queue (by decide)
  have settings : s.settings = (writeChange h.entry.change h.entry.zone s).settings := frame.same .settings (by decide)
  have mark : s.atMark = (writeChange h.entry.change h.entry.zone s).atMark := frame.same .atMark (by decide)
  have ports : s.ports = (writeChange h.entry.change h.entry.zone s).ports := frame.same .ports (by decide)
  rw [completeHand_some hand, landChange_lands keep, raiseDrained_eq]
  generalize writeChange h.entry.change h.entry.zone s = u at *
  refine ⟨fun z => ?_, ?_, ?_⟩
  · rw [State.zone, (takeNext_rest _).1, apply_ite State.zones]
    exact congrArg (·[z]) (ite_self _)
  · rw [(takeNext_rest _).2, apply_ite State.ports, queue]
    exact if_congr Iff.rfl ports.symm (by rw [State.raise, State.raise, State.updPort, State.updPort, ports]; rfl)
  · refine takeNext_takes ?_ ?_ ?_
    · rw [apply_ite State.queue]
      exact (ite_self _).trans (by rw [State.freed, State.freed, queue])
    · rw [apply_ite State.settings]
      exact (ite_self _).trans settings.symm
    · rw [apply_ite State.atMark]
      exact (ite_self _).trans mark.symm

set_option Elab.async true in
/-- Settles O30. -/
theorem changeLands : Obligations.ChangeLands := by
  intro s h hand due keep
  obtain ⟨zones, ports, queue⟩ :=
    completeHand_lands (s := s.told (s.atMark || decide (h.marks = 1))) hand keep
  refine ⟨_, changeComplete_due hand due, fun z => ?_, ?_, queue, fun empty => ?_, fun some_entry => ?_⟩
  · rw [zones z]
    have entry := writeChange_entry h.entry.change h.entry.zone z (s.told (s.atMark || decide (h.marks = 1)))
    by_cases n : h.entry.zone.names z
    · replace entry := entry.trans (if_pos n)
      refine ⟨(congrArg TableEntry.active entry).trans rfl, (congrArg TableEntry.status entry).trans rfl, ?_⟩
      rw [if_pos (show h.entry.zone = .all ∨ h.entry.zone = .one z from n)]
      exact ⟨(congrArg TableEntry.shadow entry).trans rfl, fun g => by
        rw [entry]
        exact h.entry.change.joined_groups _ g⟩
    · replace entry := entry.trans (if_neg n)
      refine ⟨congrArg TableEntry.active entry, congrArg TableEntry.status entry, ?_⟩
      rw [if_neg (show ¬ (h.entry.zone = .all ∨ h.entry.zone = .one z) from n)]
      exact zone_writeChange_other _ n
  · rw [apply_ite State.ports]
    exact ports
  · have stays : (s.told (s.atMark || decide (h.marks = 1))).freed.queue.entries = [] := empty
    rw [queue, takeNext_empty stays]
    exact congrArg (ChangeQueue.mk · none) empty
  · obtain ⟨older, younger, e, split, taken, -⟩ := nextEntryChosen
      (s.told (s.atMark || decide (h.marks = 1))).freed rfl some_entry
    rw [queue, taken]
    refine ⟨rfl, ?_⟩
    rw [show s.queue.entries = older ++ e :: younger from split]
    simp [Nat.add_assoc]

end Sys2Proof.Machine
end

section
/-! PROOFS. The frame of every row, and that every row answers a next state while the allocations lie in delay memory:
said together, since both follow each row to its one end. -/

namespace Sys2Proof.Machine

-- One theorem at a time, and a long one, marked, on a thread of its own: the compile has 22 GiB. The two linters do
-- not see into such a proof.
set_option Elab.async false
set_option linter.unusedTactic false
set_option linter.unreachableTactic false

variable {s t u : State} {l m : List Part}

/-- A row answers a next state, and only the parts listed may differ there. -/
def Gives (l : List Part) (s : State) (o : Answer) : Prop := ∃ t, o = .next t ∧ Only l s t

theorem Only.gives (h : Only l s t) : Gives l s (.next t) := ⟨t, rfl, h⟩

/-- A frame that goes on with one among its parts. -/
theorem Only.on (hm : Part.among m l = true) (h : Only l s t) (k : Only m t u) : Only l s u := h.trans (k.mono hm)

theorem Gives.andThen {o : Answer} {f : State → Answer} (h : Gives l s o) (k : ∀ t, Gives m t (f t))
    (hm : Part.among m l = true) : Gives l s (Machine.andThen o f) := by
  obtain ⟨t, rfl, ht⟩ := h
  obtain ⟨u, e, hu⟩ := k t
  exact ⟨u, e, ht.on hm hu⟩

/-! ### The commands of the links (R189) -/

section
variable (hl : Part.among [.ports] l = true)
include hl

theorem Only.said (h : Only l s t) {p : Port} {code : Nat} {r : Result} {b : List Byte} :
    Only l s (t.answer p code r b) := h.on hl (answer_only ..)

theorem Gives.guard {p : Port} {code : Nat} {b : Bool} {f : State → State} (h : Only l s (f s)) :
    Gives l s (.next (guarded s p code b f)) :=
  (guarded_only s p code b f (by simpa [Part.among] using hl) h).gives

theorem Only.check {α : Type} {p : Port} {code : Nat} {v : Option α} {f : α → State} (h : ∀ a, Only l s (f a)) :
    Only l s (checked s p code v f) :=
  checked_only s p code v f (by simpa [Part.among] using hl) h

theorem Gives.report {p : Port} {code : Nat} {b : Bool} {r : Result} {f : State → List Byte} :
    Gives l s (.next (guarded s p code b fun s => s.answer p code r (f s))) :=
  .guard hl (.said hl (.refl ..))

end

theorem takeProbeRun_gives (p : Port) (e : Option Choice) (s : State) :
    Gives (partsOf (.probeRun p e)) s (takeProbeRun p e s) := by
  have copied : ∀ b, Only (partsOf (.probeRun p e)) s (if runCopies b then copySettings s else s) := fun b =>
    Only.ite _ ((copySettings_only s).mono rfl) (.refl ..)
  refine .guard rfl (.check rfl fun edge => ?_)
  refine Only.ite _ (.said rfl (.refl ..)) (Only.ite _ (.said rfl (.refl ..)) ?_)
  cases edge with
  | some e => exact .said rfl ((updProbe_only s _).mono rfl)
  | none =>
    dsimp only
    split
    · exact .said rfl (copied _)
    · exact .said rfl ((copied _).on rfl (probeBegin_only ..))

theorem takeProbeAdopt_gives (p : Port) (zone : Nat) (s : State) :
    Gives (partsOf (.probeAdopt p zone)) s (takeProbeAdopt p zone s) := by
  refine .guard rfl (.check rfl fun z => ?_)
  split
  · exact .said rfl (.refl ..)
  · exact Only.ite _ (.said rfl (.refl ..)) (Only.ite _ (.said rfl (.refl ..)) (acceptChange_only ..))

theorem takeRecallScene_gives (p : Port) (n : Nat) (s : State) :
    Gives (partsOf (.recallScene p n)) s (takeRecallScene p n s) := by
  refine (Only.ite _ (.said rfl (.refl ..)) (.check rfl fun n => Only.ite _ (.said rfl (.refl ..)) ?_)).gives
  split
  · exact .said rfl ((recallFailed_only p s).mono rfl)
  · exact .said rfl (((updStore_only s _).mono rfl).on rfl (serveRecall_only _))

theorem takeAllocate_gives (p : Port) (zone : Nat) (a : Option AllocArg) (s : State) :
    Gives (partsOf (.allocate p zone a)) s (takeAllocate p zone a s) := by
  refine .guard rfl (.check rfl fun z => .check rfl fun a => Only.ite _ (.said rfl (.refl ..)) ?_)
  split
  · exact .said rfl (.refl ..)
  · exact .said rfl ((directWrite_only ..).mono rfl)

/-- A command carried out changes its own parts, and the parts of commands; a row that is no command changes nothing. -/
structure Carried (i : Instr) (s : State) (o : Answer) : Prop where
  own : Gives (partsOf i) s o
  commanded : Gives Part.commanded s o

theorem Gives.carried {i : Instr} {o : Answer} (hm : Part.among (partsOf i) Part.commanded = true)
    (h : Gives (partsOf i) s o) : Carried i s o :=
  ⟨h, h.imp fun _ k => ⟨k.1, k.2.mono hm⟩⟩

theorem Carried.refl (i : Instr) (s : State) : Carried i s (.next s) := ⟨(Only.refl ..).gives, (Only.refl ..).gives⟩

set_option Elab.async true in
theorem runCommand_carried (i : Instr) (s : State) : Carried i s (runCommand i s) := by
  cases i with
  | readRecord => exact Gives.carried rfl (.guard rfl (.check rfl fun _ => .check rfl fun _ => .said rfl (.refl ..)))
  | gain | eqSelect | geometry | coupling =>
    exact Gives.carried rfl (.guard rfl (.check rfl fun _ => .check rfl fun _ => acceptChange_only ..))
  | eqBank => exact Gives.carried rfl (.guard rfl (.check rfl fun _ => .check rfl fun _ => .check rfl fun _ => acceptChange_only ..))
  | timing | evacGain => exact Gives.carried rfl (.guard rfl (.check rfl fun _ => acceptChange_only ..))
  | readQueue | readDelayMap | readSensors | readProbe | readStore | readSystem | noteRead | readStatus =>
    exact Gives.carried rfl (.report rfl)
  | readTargets | readChain | readRoutes | readPower => exact Gives.carried rfl (.guard rfl (.check rfl fun _ => .said rfl (.refl ..)))
  | allocate => exact Gives.carried rfl (takeAllocate_gives ..)
  | sensorSetup =>
    exact Gives.carried rfl (.guard rfl (.check rfl fun _ => .check rfl fun _ => .check rfl fun _ => .said rfl
      ((((voidIfInFlight_only _ s).mono rfl).on rfl (setupSlot_only ..)).on rfl (noticeIfLeft_only ..))))
  | sensorManual =>
    exact Gives.carried rfl (.guard rfl (.check rfl fun _ => .said rfl
      ((((voidIfInFlight_only _ s).mono rfl).on rfl (updSensor_only ..)).on rfl (sensorNotice_only ..))))
  | sensorAuto =>
    exact Gives.carried rfl (.guard rfl (.check rfl fun _ => .said rfl
      ((((voidIfInFlight_only _ s).mono rfl).on rfl (updSensor_only ..)).on rfl (noticeIfLeft_only ..))))
  | clearClip =>
    exact Gives.carried rfl (.guard rfl (.check rfl fun zs =>
      .said rfl ((Only.eachOf zs _ (fun z s => updGain_only s z _) s).mono rfl)))
  | routeRaise =>
    exact Gives.carried rfl (.guard rfl (.check rfl fun _ => .check rfl fun _ => Only.ite _ (.said rfl (.refl ..))
      (.said rfl (overZones_only _ (raiseIn_only _) _ _))))
  | routeDrop p =>
    exact Gives.carried rfl (.guard rfl (.check rfl fun _ => .check rfl fun src => .said rfl (overZones_only _ (dropIn_only p src) _ _)))
  | routeDropAll p =>
    have dropped := overZones_only (dropAllIn p) (dropAllIn_only p) allZones s
    refine Gives.carried rfl (.guard rfl ?_)
    generalize overZones (dropAllIn p) allZones s = x at dropped ⊢
    exact .said rfl dropped
  | enableZone =>
    exact Gives.carried rfl (.guard rfl (.check rfl fun _ => Only.ite _ (.said rfl (.refl ..)) (Only.ite _ (.said rfl (.refl ..))
      (.said rfl (enableZone_only ..)))))
  | disableZone =>
    exact Gives.carried rfl (.guard rfl (.check rfl fun _ => Only.ite _ (.said rfl (.refl ..)) (Only.ite _ (.said rfl (.refl ..))
      (.said rfl (disableZone_only ..)))))
  | probeSetup =>
    exact Gives.carried rfl (.guard rfl (.check rfl fun _ => .check rfl fun _ => .check rfl fun _ =>
      .said rfl ((updProbe_only s _).mono rfl)))
  | probeRun => exact Gives.carried rfl (takeProbeRun_gives ..)
  | probeStop => exact Gives.carried rfl (.guard rfl (.said rfl ((probeStopped_only s).mono rfl)))
  | probeClear => exact Gives.carried rfl (.guard rfl (.said rfl ((updProbe_only s _).mono rfl)))
  | probeAdopt => exact Gives.carried rfl (takeProbeAdopt_gives ..)
  | eraseSector | storeZone | storeScene | storeSystem | lockZone => exact Gives.carried rfl ((writeCommand_only ..).gives)
  | recallScene => exact Gives.carried rfl (takeRecallScene_gives ..)
  | clearStoreFaults | overrideLocks | lowerOverride => exact Gives.carried rfl (.guard rfl (.said rfl ((updStore_only s _).mono rfl)))
  | setSystem => exact Gives.carried rfl (.guard rfl (.said rfl ((applySettings_only ..).mono rfl)))
  | noteSetup => exact Gives.carried rfl (.guard rfl (.check rfl fun _ => .check rfl fun _ => .said rfl (updNote_only ..)))
  | noteClear p =>
    exact Gives.carried rfl (.guard rfl (.check rfl fun ks => .said rfl (Only.foldl _ (fun s k => updNote_only s p k _) ks s)))
  | supervise => exact Gives.carried rfl (.guard rfl (.said rfl ((superviseStart_only ..).mono rfl)))
  | superviseEnd => exact Gives.carried rfl (.guard rfl (.said rfl ((superviseStop_only s).mono rfl)))
  | restart => exact Gives.carried rfl (.guard rfl (Only.ite _ (.said rfl (.refl ..)) (updLink_only ..)))
  | _ => exact .refl ..

/-! ### The links (R186 to R188, R193) -/

theorem carryOut_gives (p : Port) (f : Frame) (s : State) : Gives Part.commanded s (carryOut p f s) := by
  unfold carryOut
  split
  · exact ((answerUnknown_only ..).mono rfl).gives
  · exact (Only.said rfl (Only.ite _ ((lowerOverride_only s).mono rfl) (.refl ..))).gives
  · exact (runCommand_carried _ s).commanded

theorem takeFrame_gives (p : Port) (h : Only Part.commanded s t) : Gives Part.commanded s (takeFrame p t) := by
  unfold takeFrame
  dsimp only
  split
  · obtain ⟨u, e, k⟩ := carryOut_gives p _ _
    exact ⟨u, e, (h.on rfl (updLink_only ..)).trans k⟩
  · exact h.gives

theorem discard_only (p : Port) (c : LinkCause) (s : State) : Only [.ports] s (discard p c s) :=
  (updLink_only s p _).trans (raise_only ..)

theorem judgeFrame_gives (p : Port) (s : State) : Gives Part.commanded s (judgeFrame p s) := by
  unfold judgeFrame
  split
  · split
    · unfold placeFrame
      split
      · exact takeFrame_gives p ((updLink_only ..).mono rfl)
      · exact ((discard_only ..).mono rfl).gives
    · exact ((discard_only ..).mono rfl).gives
  all_goals exact (Only.refl ..).gives

theorem readLinkByte_only (p : Port) (b : Byte) (stop : Bool) (s : State) :
    Only [.ports] s (readLinkByte p b stop s) := by
  have discarded := fun c => discard_only p c s
  have moved := fun r => updLink_only s p fun l => { l with rx := r }
  unfold readLinkByte
  split
  · exact Only.ite _ (moved _) (.refl ..)
  · exact Only.ite _ (Only.ite _ (moved _) (Only.ite _ (moved _) (discarded _))) (discarded _)
  · exact Only.ite _ (moved _) (discarded _)
  · exact Only.ite _ (moved _) (discarded _)
  · exact .refl ..

set_option Elab.async true in
theorem restartEvent_only (p : Port) (s : State) :
    Only (Part.commanded ++ [.history, .lastReset, .sampleIndex, .atMark, .tdmOut]) s (restartEvent p s) :=
  Only.fields (by rintro ⟨⟩ hp <;> first | exact absurd (by decide) hp | rfl)

theorem execResponseSent_gives (p : Port) (s : State) : Gives (partsOf (.responseSent p)) s (execResponseSent p s) := by
  unfold execResponseSent
  split
  · exact (Only.refl ..).gives
  · split
    · exact (restartEvent_only p s).gives
    · obtain ⟨t, e, h⟩ := takeFrame_gives p ((updLink_only s p _).mono rfl)
      exact ⟨t, e, h.mono rfl⟩

theorem endResponses_gives (p : Port) (n : Nat) (s : State) :
    Gives (partsOf (.responseSent p)) s (endResponses p n s) := by
  induction n generalizing s with
  | zero => exact (Only.refl ..).gives
  | succ n ih =>
    unfold endResponses
    split
    · exact (Only.refl ..).gives
    · exact (execResponseSent_gives p s).andThen ih rfl

theorem answers_atTurn (p : Port) {f : State → Answer} (h : ∀ s, Answers (f s)) (s : State) : Answers (atTurn p f s) := by
  obtain ⟨t, e, -⟩ := endResponses_gives p ((s.port p).link.buffer.length + 1) s
  rw [atTurn, e]
  exact h t

/-! ### Rows (log entries 3 and 5) -/

/-- An event of a frame mark, told after its FRAME_MARK or before it (log entry 5). -/
theorem told_gives {f : State → State} (h : ∀ s, Only m s (f s)) {c d : Prop} [Decidable c] [Decidable d]
    (hm : Part.among m l = true) (mark : Part.among [.atMark] l = true) :
    Gives l s (.next (if c then f s else if d then f { s with atMark := true } else s)) :=
  (Only.ite _ ((h s).mono hm) (Only.ite _ (((atMark_only s true).mono mark).on hm (h _)) (.refl ..))).gives

theorem frameMark_gives (order : List MarkWork) (s : State) :
    Gives (partsOf (.frameMark order)) s (execFrameMark order s) :=
  ((((settle_only s).mono rfl).on rfl (tick_only _)).on rfl (Only.foldl _ (fun s w => doWork_only w s) _ _)).gives

theorem sensorTransactionEnd_gives (bus : BusOutcome) (s : State) :
    Gives (partsOf (.sensorTransactionEnd bus)) s (execSensorTransactionEnd bus s) := by
  refine ⟨_, rfl, ?_⟩
  split
  · exact .refl ..
  · have judged := fun n o => (applyOutcome_only n o s).mono (m := partsOf (.sensorTransactionEnd bus)) rfl
    exact Only.ite _ ((roundOn_only ..).mono rfl)
      (Only.ite _ ((judged _ _).on rfl (setRound_only ..)) ((judged _ _).on rfl (roundOn_only ..)))

theorem trigEdge_gives (e : Edge) (s : State) : Gives (partsOf (.trigEdge e)) s (execTrigEdge e s) := by
  refine ⟨_, rfl, ?_⟩
  split
  · exact Only.ite _ (((copySettings_only s).mono rfl).on rfl (probeStart_only ..)) (.refl ..)
  all_goals exact .refl ..

theorem eraseComplete_gives (b : Bool) (s : State) : Gives [.store, .ports] s (execEraseComplete b s) := by
  refine ⟨_, rfl, ?_⟩
  split
  · exact Only.ite _ (erasePassed_only ..) (eraseFailed_only ..)
  · exact .refl ..

theorem programComplete_gives (b : Bool) (s : State) : Gives [.store, .ports] s (execProgramComplete b s) := by
  refine ⟨_, rfl, ?_⟩
  split
  · exact Only.ite _ (programPassed_only ..) (programFailed_only ..)
  · exact .refl ..

theorem lockComplete_gives (b : Bool) (s : State) : Gives [.store, .ports] s (execLockComplete b s) := by
  refine ⟨_, rfl, ?_⟩
  split
  · exact Only.ite _ (((updSector_only ..).mono rfl).on rfl (endOperation_only ..)) (endOperation_only ..)
  · exact .refl ..

theorem sceneReadEnd_gives (b : Bool) (s : State) : Gives [.store, .ports, .queue] s (execSceneReadEnd b s) := by
  refine ⟨_, rfl, ?_⟩
  split
  · exact ((readEnd_only ..).mono rfl).on rfl (storeGoOn_only _)
  · exact .refl ..

/-- What a row that is no command of a link gives: SAMPLE_PERIOD may fault, and UNKNOWN_COMMAND waits for its link. -/
def Rowed (i : Instr) (s : State) : Prop :=
  Gives (partsOf i) s (exec i s) ∨ (∃ x, i = .samplePeriod x) ∨ ∃ p cmd, i = .unknownCommand p cmd

theorem Gives.rowed {i : Instr} (h : Gives (partsOf i) s (exec i s)) : Rowed i s := .inl h

set_option Elab.async true in
theorem event_rowed {i : Instr} (event : (commandPort i).isNone = true) (s : State) : Rowed i s := by
  cases i with
  | coldReset => exact Gives.rowed ((afterReset_only ..).gives)
  | startupDone => exact Gives.rowed ((Only.ite _ (startUp_only s) (.refl ..)).gives)
  | frameMark order => exact Gives.rowed (frameMark_gives order s)
  | samplePeriod x => exact .inr (.inl ⟨x, rfl⟩)
  | unknownCommand p cmd => exact .inr (.inr ⟨p, cmd, rfl⟩)
  | changeComplete => exact Gives.rowed (told_gives completeHand_only rfl rfl)
  | wakeTimeElapsed z => exact Gives.rowed (told_gives (wakeFinish_only z) rfl rfl)
  | drainTimeElapsed z => exact Gives.rowed (told_gives (drainFinish_only z) rfl rfl)
  | fadeEnd z =>
    exact Gives.rowed ((Only.ite _ ((Only.ite _ ((atMark_only s true).mono rfl) (.refl ..)).on rfl (fadeFinish_only z _))
      (.refl ..)).gives)
  | crossfadeEnd z => exact Gives.rowed ((Only.ite _ (crossfadeFinish_only z s) (.refl ..)).gives)
  | supervisionExpiry => exact Gives.rowed (told_gives supervisionExpire_only rfl rfl)
  | pollTimerExpiry => exact Gives.rowed (told_gives pollExpiry_only rfl rfl)
  | sensorTransactionEnd bus => exact Gives.rowed (sensorTransactionEnd_gives bus s)
  | sensorStale n => exact Gives.rowed (told_gives (becomeStale_only n) rfl rfl)
  | trigEdge e => exact Gives.rowed (trigEdge_gives e s)
  | periodOpen => exact Gives.rowed ((periodOpen_only s).gives)
  | windowClose => exact Gives.rowed (told_gives closeWindow_only rfl rfl)
  | periodEnd =>
    exact Gives.rowed ((Only.ite _ ((periodEnd_only 0 s).mono rfl)
      (Only.ite _ (((atMark_only s true).mono rfl).on rfl (periodEnd_only 1 _)) (.refl ..))).gives)
  | eraseComplete b => exact Gives.rowed (eraseComplete_gives b s)
  | programComplete b => exact Gives.rowed (programComplete_gives b s)
  | lockComplete b => exact Gives.rowed (lockComplete_gives b s)
  | suspensionEvent => exact Gives.rowed ((Only.ite _ (storeGoOn_only s) (.refl ..)).gives)
  | sceneReadEnd b => exact Gives.rowed (sceneReadEnd_gives b s)
  | frameReceived p => exact Gives.rowed (judgeFrame_gives p s)
  | linkGap p =>
    refine Gives.rowed ⟨_, rfl, ?_⟩
    split
    · exact .refl ..
    · exact .refl ..
    all_goals exact discard_only ..
  | responseSent p => exact Gives.rowed (execResponseSent_gives p s)
  | byteReceived p b stop =>
    exact Gives.rowed ((judgeFrame_gives p s).andThen (fun t => (readLinkByte_only p b stop t).gives) rfl)
  | _ => exact absurd event Bool.false_ne_true

theorem samplePeriod_leaves {x : Vector Sample 8} (e : execSamplePeriod x s = .next t) :
    Only (partsOf (.samplePeriod x)) s t := by
  have frame : Only (partsOf (.samplePeriod x)) s (Machine.samplePeriod x (settleSamples (settle s))) :=
    (((settle_only s).mono rfl).on rfl (settleSamples_only _)).on rfl (samplePeriod_only x _)
  unfold execSamplePeriod at e
  dsimp only at e
  generalize Machine.samplePeriod x (settleSamples (settle s)) = u at frame e
  split at e
  · cases e
  · cases e
    exact frame

/-- Settles O2, by `runCommand_carried` and `event_rowed`. -/
theorem framesHold : Obligations.FramesHold := by
  intro i s t idle e
  have from_gives : Gives (partsOf i) s (exec i s) → Only (partsOf i) s t := fun ⟨u, e', h⟩ => by
    cases e'.symm.trans e
    exact h
  cases hp : commandPort i with
  | some p =>
    refine from_gives ?_
    rw [exec_command i p hp, atTurn_idle (idle p (.inl hp))]
    exact (runCommand_carried i s).own
  | none =>
    rcases event_rowed (i := i) (hp ▸ rfl) s with k | ⟨x, rfl⟩ | ⟨p, cmd, rfl⟩
    · exact from_gives k
    · exact samplePeriod_leaves e
    · refine from_gives (?_ : Gives [.ports] s (execUnknownCommand p cmd s))
      rw [execUnknownCommand, atTurn_idle (idle p (.inr ⟨cmd, rfl⟩))]
      split
      · exact (Only.refl ..).gives
      · exact (answerUnknown_only ..).gives

end Sys2Proof.Machine
end

section
/-! PROOFS. Every row answers a next state while the allocations lie in delay memory, and the one fault (R59, R60). -/

namespace Sys2Proof.Machine

-- One theorem at a time: theorems elaborated at once take a thread with its own stack each.
set_option Elab.async false

variable {s t : State} {l : List Part}

/-- Every allocation in force lies in delay memory (R60). -/
def Inside (s : State) : Prop := ∀ z, (s.active z).allocated = true

theorem Inside.congr (h : Inside s) (k : ∀ z, (s.zone z).entry.active = (t.zone z).entry.active) : Inside t := fun z =>
  (congrArg ZoneRecord.allocated (k z)).symm.trans (h z)

theorem Only.inside (k : Only l s t) (hl : Part.among l (Part.besides [.entry]) = true) (h : Inside s) : Inside t :=
  h.congr fun z => congrArg TableEntry.active (k.besides hl (p := .entry) (by decide) z)

theorem takeIf_inside {f : State → State} {b : Bool} (k : ∀ s, Only l s (f s))
    (hl : Part.among l (Part.besides [.entry]) = true) (h : Inside s) : Inside (takeIf b f s) :=
  (takeIf_only b s (k s)).inside hl h

/-- A completing change writes the shadow records alone (R7). -/
theorem completeHand_inside (h : Inside s) : Inside (completeHand s) := by
  rcases completeHand_entry s with k | ⟨x, -, -, k⟩
  · exact h.congr fun z => congrArg TableEntry.active (k z).symm
  · refine h.congr fun z => ?_
    rw [k z, writeChange_entry]
    split <;> rfl

theorem takeIf_completes {b : Bool} (h : Inside s) : Inside (takeIf b completeHand s) := by
  cases b
  · exact h
  · exact completeHand_inside h

theorem settle_inside (h : Inside s) : Inside (settle s) := by
  unfold settle
  dsimp only
  refine (periodOpen_only _).inside rfl (takeIf_inside (periodEnd_only 0) rfl (takeIf_inside closeWindow_only rfl ?_))
  refine takeIf_completes ?_
  refine (Only.eachZone _ (fun z s => takeIf_only _ s (drainFinish_only z s)) _).inside rfl ?_
  refine (Only.eachZone _ (fun z s => takeIf_only _ s (wakeFinish_only z s)) _).inside rfl ?_
  refine takeIf_inside pollExpiry_only rfl (takeIf_inside supervisionExpire_only rfl ?_)
  exact (Only.foldl _ (fun s n => takeIf_only _ s (becomeStale_only n s)) allSlots s).inside rfl h

theorem outsideMemory_inside (h : Inside s) : outsideMemory s = false := by
  refine Bool.eq_false_iff.mpr fun outside => ?_
  obtain ⟨z, -, k⟩ := List.any_eq_true.mp outside
  obtain ⟨-, k⟩ := Bool.and_eq_true_iff.mp k
  have inside := h z
  unfold ZoneRecord.allocated at inside
  cases a : (s.active z).allocation with
  | none => rw [a] at k; cases k
  | some a' =>
    rw [a] at k inside
    exact absurd inside (by simpa using k)

theorem exec_samplePeriod (x : Vector Sample 8) : exec (.samplePeriod x) s = execSamplePeriod x s := rfl

theorem samplePeriod_answers (x : Vector Sample 8) (h : Inside s) : Answers (exec (.samplePeriod x) s) := by
  have inside := outsideMemory_inside ((settleSamples_only (settle s)).inside rfl (settle_inside h))
  rw [exec_samplePeriod, execSamplePeriod, inside]
  exact ⟨_, rfl⟩

theorem answers_exec (i : Instr) (h : Inside s) : Answers (exec i s) := by
  have given : ∀ {l o}, Gives l s o → Answers o := fun ⟨t, e, _⟩ => ⟨t, e⟩
  cases hp : commandPort i with
  | some p =>
    rw [exec_command i p hp]
    exact answers_atTurn p (fun s => (runCommand_carried i s).own.imp fun _ k => k.1) s
  | none =>
    rcases event_rowed (i := i) (hp ▸ rfl) s with k | ⟨x, rfl⟩ | ⟨p, cmd, rfl⟩
    · exact given k
    · exact samplePeriod_answers x h
    · refine (?_ : Answers (execUnknownCommand p cmd s))
      unfold execUnknownCommand
      split
      · exact ⟨_, rfl⟩
      · exact answers_atTurn p (fun s => ⟨_, rfl⟩) s

/-- Settles O3: nothing before the sample moves an allocation, so that it is inside; the zone named shows it outside. -/
theorem faultsOnlyOutsideMemory : Obligations.FaultsOnlyOutsideMemory := by
  refine ⟨fun i s h => answers_exec i fun z => (h z).1, fun x s z a due ending service allocated beyond => ?_⟩
  have outside : outsideMemory s = true := by
    refine List.any_eq_true.mpr ⟨z, mem_allZones z, ?_⟩
    rw [service, allocated]
    have out : a.inMemory = false := decide_eq_false (Nat.not_le.mpr beyond)
    exact congrArg (true && !·) out
  rw [exec_samplePeriod, execSamplePeriod, due.settle_eq, ending.settleSamples_eq]
  exact if_pos outside

end Sys2Proof.Machine
end

section
/-! PROOFS. The checks before a command's own rule: STARTING, NOT_PERMITTED and a zone out of range (R189). -/

namespace Sys2Proof.Machine

-- One theorem at a time, and a long one, marked, on a thread of its own: the compile has 22 GiB. The two linters do
-- not see into such a proof.
set_option Elab.async false
set_option linter.unusedTactic false
set_option linter.unreachableTactic false

variable {s : State} {i : Instr} {p : Port} {code : Nat}

/-! ### A zone out of range -/

theorem zone_far {z : Nat} (h : ∃ n ∈ [z], 32 ≤ n) : zoneOf z = none := by
  obtain ⟨n, mem, far⟩ := h
  exact zoneOf_none (List.mem_singleton.mp mem ▸ far)

theorem zoneSet_far {l : List Nat} (h : ∃ n ∈ l, 32 ≤ n) : zoneSet l = none := by
  obtain ⟨n, mem, far⟩ := h
  exact if_neg fun k => absurd (of_decide_eq_true (List.all_eq_true.mp k.2 n mem)) (Nat.not_lt.mpr far)

theorem zoneSel_far {z : ZoneSel} (h : ∃ n ∈ (match z with | .zone n => [n] | .all => []), 32 ≤ n) :
    zoneTarget z = none ∧ zoneOnly z = none := by
  cases z with
  | zone n => exact ⟨congrArg (Option.map _) (zone_far h), zone_far h⟩
  | all => exact absurd h (by simp)

theorem none_far {P : Prop} (h : ∃ n ∈ ([] : List Nat), 32 ≤ n) : P := by
  obtain ⟨n, mem, -⟩ := h
  exact absurd mem List.not_mem_nil

theorem checked_far {α : Type} {v : Option α} {f : α → State} (h : v = none) :
    checked s p code v f = s.answer p code .badValue [] := by
  rw [h]
  rfl

/-! ### The refusals of a row -/

/-- The state a refusal leaves: that of a write command of the store lowers the override (R164). -/
def refusedState (s : State) (code : Nat) : State :=
  if 0x20 ≤ code ∧ code ≤ 0x24 then { s with store := { s.store with override := false } } else s

/-- The three refusals of a command carried out (R189). -/
structure Refuses (i : Instr) (p : Port) (code : Nat) (s : State) : Prop where
  starting : s.starting = true → runCommand i s = .next ((refusedState s code).answer p code .starting [])
  denied : s.starting = false → portMay s p code = false →
    runCommand i s = .next ((refusedState s code).answer p code .notPermitted [])
  far : s.starting = false → portMay s p code = true → (∃ n ∈ zonesNamed i, 32 ≤ n) →
    runCommand i s = .next ((refusedState s code).answer p code .badValue [])

/-- A row that no link sends, or the refusals of its command. -/
def RowRefuses (i : Instr) (s : State) : Prop :=
  (commandPort i).isNone = true ∨ Refuses i ((commandPort i).getD .P) ((commandCode i).getD 0) s

theorem refuses_guarded {b : Bool} {f : State → State} (plain : isWriteCode code = false)
    (run : runCommand i s = .next (guarded s p code b f)) (may : portMay s p code = b)
    (far : (∃ n ∈ zonesNamed i, 32 ≤ n) → f s = s.answer p code .badValue []) : Refuses i p code s := by
  have same : refusedState s code = s := if_neg (of_decide_eq_false plain)
  rw [← may] at run
  refine ⟨fun h => ?_, fun h m => ?_, fun h m k => ?_⟩
  · rw [run, same, guarded_starting h]
  · rw [run, same, m, guarded_denied h]
  · rw [run, same, m, guarded_passed h, far k]

theorem refuses_write {c : WriteCommand} {b m : Bool} {n : Option SectorNo} {x : Contents}
    (run : runCommand i s = .next (writeCommand p c b n m x s)) (named : c.code = code) (may : portMay s p code = b)
    (far : (∃ n ∈ zonesNamed i, 32 ≤ n) → n = none) : Refuses i p code s := by
  subst named
  have lowered : refusedState s c.code = lowerOverride s := if_pos (by cases c <;> decide)
  have refused : ∀ r, writeFailure s c b n m = some r →
      runCommand i s = .next ((refusedState s c.code).answer p c.code r []) := fun r h => by
    rw [run, lowered]
    exact congrArg Host.Outcome.next (by unfold writeCommand; rw [h])
  have running : s.starting = false → ¬ s.starting = true := ne_true_of_eq_false
  refine ⟨fun h => refused .starting (if_pos h), fun h k => refused .notPermitted ?_, fun h k z => refused .badValue ?_⟩
  · exact (if_neg (running h)).trans (if_pos (may.symm.trans k))
  · rw [far z]
    exact (if_neg (running h)).trans (if_neg (by rw [← may, k]; exact Bool.noConfusion))

set_option Elab.async true in
theorem runCommand_refuses (i : Instr) (s : State) : RowRefuses i s := by
  cases i with
  | readRecord | allocate | enableZone | disableZone | probeAdopt | probeSetup =>
    exact .inr (refuses_guarded rfl rfl rfl fun h => checked_far (zone_far h))
  | gain | eqSelect | timing | evacGain =>
    exact .inr (refuses_guarded rfl rfl rfl fun h => checked_far (zoneSel_far h).1)
  | eqBank | geometry | coupling =>
    exact .inr (refuses_guarded rfl rfl rfl fun h => checked_far (zoneSel_far h).2)
  | readTargets | clearClip | readChain | routeRaise | routeDrop | readRoutes | readPower =>
    exact .inr (refuses_guarded rfl rfl rfl fun h => checked_far (zoneSet_far h))
  | readQueue | readDelayMap | sensorSetup | sensorManual | sensorAuto | readSensors | routeDropAll | probeRun
  | probeStop | probeClear | readProbe | clearStoreFaults | overrideLocks | lowerOverride | readStore
  | setSystem | readSystem | noteSetup | noteRead | noteClear | supervise | superviseEnd | readStatus | restart =>
    exact .inr (refuses_guarded rfl rfl rfl none_far)
  | recallScene =>
    exact .inr ⟨fun h => congrArg Host.Outcome.next (if_pos h), fun _ k => (nomatch k), fun _ _ => none_far⟩
  | eraseSector | storeScene | storeSystem => exact .inr (refuses_write rfl rfl rfl none_far)
  | storeZone | lockZone => exact .inr (refuses_write rfl rfl rfl fun h => congrArg (Option.map _) (zone_far h))
  | _ => exact .inl rfl

/-- Settles O25, by the row's own refusals. -/
theorem refusalsHold : Obligations.RefusalsHold := by
  intro i p code s port named idle
  have row := runCommand_refuses i s
  rw [RowRefuses, port, named] at row
  rw [exec_command i p port, atTurn_idle idle]
  obtain ⟨starting, denied, far⟩ := row.resolve_left Bool.false_ne_true
  exact ⟨starting, denied, far⟩

end Sys2Proof.Machine
end

section
/-! PROOFS. A change command: appended, merged, or refused (R19 to R25). -/

namespace Sys2Proof.Machine

-- One theorem at a time, and a long one, marked, on a thread of its own: the compile has 22 GiB. The two linters do
-- not see into such a proof.
set_option Elab.async false
set_option linter.unusedTactic false
set_option linter.unreachableTactic false

variable {s : State} {c : Instr} {p : Port} {code : Nat} {z : ZoneTarget} {ch : Change} {exactly : Bool}

/-! ### Fields and structural values -/

theorem limitedFields_nil {l : List Numeric} : limitedFields l = [] ↔ l.all (fun f => inRange f.lo f.hi f.value) = true := by
  simp [limitedFields, List.filter_eq_nil_iff]

/-- The fields outside their ranges, by the statement's list and by the model's. -/
theorem outside_eq (l : List (Nat × Int × Int × Int)) :
    outside l = limitedFields (l.map fun x => ⟨x.1, x.2.1, x.2.2.1, x.2.2.2⟩) := by
  have same : ∀ x : Nat × Int × Int × Int,
      decide (x.2.2.2 < x.2.1 ∨ x.2.2.1 < x.2.2.2) = !inRange x.2.1 x.2.2.1 x.2.2.2 := fun x => by
    rw [inRange, ← decide_not]
    exact decide_eq_decide.mpr (by omega)
  simp only [outside, limitedFields, same, List.filter_map, List.map_map, Function.comp_def]

theorem toFin_val {n : Nat} [NeZero n] (k : Fin n) : toFin n k.val = some k := by
  simp [toFin]

theorem weights_all {α : Type} (v : Vector α 8) (f : α → Bool) : v.toList.all f = allSlots.all fun n => f v[n] := by
  rw [Bool.eq_iff_iff, List.all_eq_true, List.all_eq_true]
  constructor
  · exact fun h n _ => h _ (Vector.mem_toList_iff.mpr (Vector.getElem_mem n.isLt))
  · intro h x mem
    obtain ⟨i, hi, rfl⟩ := Vector.getElem_of_mem (Vector.mem_toList_iff.mp mem)
    exact h ⟨i, hi⟩ (List.mem_finRange _)

/-! ### What a change command asks for -/

/-- A change command is offered, with the fields that R21 limits (R19 to R21). -/
structure Accepts (c : Instr) (p : Port) (code : Nat) (z : ZoneTarget) (ch : Change) (exactly : Bool) (s : State)
    (limited : List Nat) : Prop where
  exact_iff : limited = [] ↔ exactly = true
  limits : ∀ l, Limits c l → l = limited
  run : exec c s = .next (acceptChange p code z ch limited [] s)

theorem checked_of {α : Type} {v : Option α} {a : α} {f : α → State} (h : v = some a) : checked s p code v f = f a := by
  rw [h]
  rfl

theorem Takes.offers {i : Instr} {b : Bool} {f : State → State} {t : State} (h : Takes s p)
    (port : commandPort i = some p) (may : b = true) (run : runCommand i s = .next (guarded s p code b f))
    (offer : f s = t) : Machine.exec i s = .next t :=
  offer ▸ h.exec port may run

theorem inRange_nil {n : Nat} {lo hi x : Int} : limitedFields [⟨n, lo, hi, x⟩] = [] ↔ inRange lo hi x = true := by
  rw [limitedFields_nil, List.all_cons, List.all_nil, Bool.and_true]

theorem geometryFields_nil {g : GeometryArg} : limitedFields (geometryFields g) = [] ↔
    (inRange 0 400000 g.pathLength && inRange 0 960 g.precedence && inRange (-6400) 6400 g.trim &&
      g.weights.toList.all (inRange 0 15)) = true := by
  rw [limitedFields_nil, geometryFields, List.all_append, List.all_map, weights_all]
  simp [and_assoc]

theorem timingFields_nil {a b c d : Int} :
    limitedFields [⟨1, 1, 64, a⟩, ⟨2, 0, 255, b⟩, ⟨3, 0, 1000, c⟩, ⟨4, 0, 60000, d⟩] = [] ↔
      (inRange 1 64 a && inRange 0 255 b && inRange 0 1000 c && inRange 0 60000 d) = true := by
  rw [limitedFields_nil]
  simp [and_assoc]

set_option Elab.async true in
theorem AsksChange.accepts (asks : AsksChange c p code z ch exactly) (takes : Takes s p) :
    ∃ limited, Accepts c p code z ch exactly s limited := by
  cases asks with
  | gain port zone mute =>
    exact ⟨_, inRange_nil, fun _ h => by cases h; exact outside_eq _, takes.offers (b := decide (p ≠ .V)) rfl
      (decide_eq_true port) rfl ((checked_of zone).trans (checked_of mute))⟩
  | eqSelect port zone =>
    exact ⟨[], by simp, fun _ h => by cases h; rfl, takes.offers (b := decide (p ≠ .V)) rfl (decide_eq_true port) rfl
      ((checked_of zone).trans (checked_of (toFin_val _)))⟩
  | eqBank zone bank k =>
    exact ⟨[], by simp, fun _ h => by cases h; rfl, takes.offers rfl rfl rfl
      ((checked_of (v := zoneOnly (.zone _)) zone).trans ((checked_of (toFin_val k)).trans (checked_of bank)))⟩
  | geometry zone reference =>
    exact ⟨_, geometryFields_nil, fun _ h => by cases h; exact outside_eq _, takes.offers rfl rfl rfl
      ((checked_of (v := zoneOnly (.zone _)) zone).trans (checked_of reference))⟩
  | @coupling _ _ k l zone leader =>
    have checked : checkOption couplingOf (some k) = some (some { leader := l, offset := limit (-64000) 64000 k.offset }) := by
      rw [checkOption, couplingOf, leader, zoneOf_val]
      rfl
    exact ⟨_, inRange_nil, fun _ h => by cases h; exact outside_eq _, takes.offers rfl rfl rfl
      ((checked_of (v := zoneOnly (.zone _)) zone).trans (checked_of checked))⟩
  | uncoupling zone =>
    exact ⟨[], by simp, fun _ h => by cases h; rfl, takes.offers rfl rfl rfl
      (checked_of (v := zoneOnly (.zone _)) zone)⟩
  | timing zone =>
    exact ⟨_, timingFields_nil, fun _ h => by cases h; exact outside_eq _, takes.offers rfl rfl rfl (checked_of zone)⟩
  | evacGain zone =>
    exact ⟨_, inRange_nil, fun _ h => by cases h; exact outside_eq _, takes.offers rfl rfl rfl (checked_of zone)⟩

/-! ### Steps 4 to 7 of the acceptance (R22 to R25) -/

theorem acceptChange_locked {limited : List Nat} {extra : List Byte} (h : LockStops s z ch) :
    acceptChange p code z ch limited extra s = s.answer p code .locked extra := by
  obtain ⟨y, rfl, holds, kind⟩ := h
  unfold acceptChange
  rcases kind with k | k | k <;> rw [k] <;> exact if_pos holds

/-- The entry a change command offers (R18, R23). -/
def newEntry (p : Port) (z : ZoneTarget) (ch : Change) : QueueEntry := { port := p, zone := z, change := ch, bypass := 0 }

theorem acceptChange_unlocked {limited : List Nat} {extra : List Byte} {o : Offer} (free : ¬ LockStops s z ch)
    (out : offerOutcome s.queue (newEntry p z ch) = o) : acceptChange p code z ch limited extra s =
      if o = .full then s.answer p code .queueFull extra
      else (offer (newEntry p z ch) s).answer p code (offerResult o limited)
        (extra ++ bOffer (offered s.queue (newEntry p z ch) o) p o limited) := by
  have passes : ∀ y, z = .one y → ch.kind = .geometry ∨ ch.kind = .eqBank ∨ ch.kind = .coupling →
      ¬ s.lockHolds y = true := fun y e k holds => free ⟨y, e, holds, k⟩
  unfold acceptChange
  refine (if_neg ?_).trans ?_
  · split
    · next k => exact passes _ rfl (.inl k)
    · next k => exact passes _ rfl (.inr (.inl k))
    · next k => exact passes _ rfl (.inr (.inr k))
    · exact Bool.false_ne_true
  · dsimp only
    rw [show offerOutcome s.queue { port := p, zone := z, change := ch, bypass := 0 } = o from out]
    cases o <;> rfl

theorem ite_result {limited : List Nat} {a b : Result} (h : limited = [] ↔ exactly = true) :
    (if limited = [] then a else b) = if exactly = true then a else b := if_congr h rfl rfl

theorem key_absent {l : List QueueEntry} {e : QueueEntry} (h : ∀ x ∈ l, x.sameKey e = false) :
    l.findIdx? (fun x => x.sameKey e) = none := List.findIdx?_eq_none_iff.mpr h

theorem key_found {l : List QueueEntry} {e old : QueueEntry} (mem : old ∈ l) (same : old.sameKey e = true) :
    ∃ i, l.findIdx? (fun x => x.sameKey e) = some i := by
  refine Option.isSome_iff_exists.mp ?_
  rw [List.findIdx?_isSome, List.any_eq_true]
  exact ⟨old, mem, same⟩

theorem acceptChange_merged {old : QueueEntry} {limited : List Nat} {extra : List Byte} (free : ¬ LockStops s z ch)
    (mem : old ∈ s.queue.entries) (same : old.sameKey (newEntry p z ch) = true) :
    ∃ payload, acceptChange p code z ch limited extra s =
      ({ s with queue :=
        { s.queue with entries := mergeInto (newEntry p z ch) s.queue.entries }
        }).answer p code (if limited = [] then .merged else .okClamped) payload := by
  obtain ⟨i, found⟩ := key_found mem same
  have outcome : offerOutcome s.queue (newEntry p z ch) = .merged (i + 1) := by
    rw [offerOutcome, found]
  have accepted := acceptChange_unlocked (code := code) (limited := limited) (extra := extra) free outcome
  rw [if_neg (fun k => nomatch k), offer_merges found] at accepted
  exact ⟨_, accepted⟩

theorem acceptChange_full {limited : List Nat} {extra : List Byte} (free : ¬ LockStops s z ch)
    (absent : ∀ e ∈ s.queue.entries, e.sameKey (newEntry p z ch) = false)
    (full : s.queue.hasRoom p = false) : acceptChange p code z ch limited extra s = s.answer p code .queueFull extra := by
  have outcome : offerOutcome s.queue (newEntry p z ch) = .full := by
    rw [offerOutcome, key_absent absent]
    exact if_neg (ne_true_of_eq_false full)
  exact (acceptChange_unlocked free outcome).trans (if_pos rfl)

theorem mergeInto_new (l : List QueueEntry) : mergeInto (newEntry p z ch) l = l.map fun e : QueueEntry =>
    if e.port = p ∧ e.zone = z ∧ e.change.kind = ch.kind ∧ e.change.bank = ch.bank then { e with change := ch } else e :=
  List.map_congr_left fun _ _ => if_congr QueueEntry.sameKey_iff rfl rfl

/-- Settles O28: the key found, the lock, and the room decide, in the order of `acceptChange_unlocked`. -/
theorem changeMergedOrRefused : Obligations.ChangeMergedOrRefused := by
  intro c p code z ch exactly s asks takes
  obtain ⟨limited, exact_iff, -, run⟩ := asks.accepts takes
  refine ⟨fun free old mem port zone kind bank => ?_, fun lock => ?_, fun free absent room => ?_⟩
  · have same : old.sameKey (newEntry p z ch) = true :=
      QueueEntry.sameKey_iff.mpr ⟨port, zone, kind, bank⟩
    obtain ⟨payload, merged⟩ := acceptChange_merged (code := code) (limited := limited) (extra := []) free mem same
    rw [ite_result exact_iff, mergeInto_new] at merged
    exact ⟨payload, run.trans (congrArg Host.Outcome.next merged)⟩
  · rw [run, acceptChange_locked lock]
  · rw [run, acceptChange_full free absent]
    rw [ChangeQueue.hasRoom, decide_eq_false_iff_not]
    rintro ⟨places, mine⟩
    exact room.elim (fun k => absurd places (Nat.not_lt.mpr k)) fun k => mine.elim k.1 (Nat.not_lt.mpr k.2)

theorem takePlace_single (m : Nat) (e : QueueEntry) : takePlace m [e] = some 0 := by
  rw [takePlace]
  split
  · rfl
  · cases k : e.port <;> simp [oldestOf, k]

/-- A FREE unit takes a single entry (R27). -/
theorem takeNext_single {e : QueueEntry} (free : s.queue.hand = none) (one : s.queue.entries = [e]) : takeNext s =
    { s with queue := { entries := [], hand := some { entry := e, marks := e.change.kind.marks, fresh := s.atMark } } } := by
  rw [takeNext, free, one, takePlace_single]
  rfl

/-- An entry appended at the young end (R25). -/
def State.joined (s : State) (e : QueueEntry) : State :=
  { s with queue := { s.queue with entries := s.queue.entries ++ [e] } }

/-- Settles O27. -/
theorem changeAppended : Obligations.ChangeAppended := by
  intro c p code z ch exactly limited s asks limits takes free absent places mine
  obtain ⟨limited, exact_iff, unique, run⟩ := asks.accepts takes
  cases unique _ limits
  have room : s.queue.hasRoom p = true := decide_eq_true ⟨places, mine⟩
  have new : ∀ x ∈ s.queue.entries, x.sameKey (newEntry p z ch) = false := absent
  have outcome : offerOutcome s.queue (newEntry p z ch) =
      .appended (s.queue.entries.length + 1) := by
    rw [offerOutcome, key_absent new]
    exact if_pos room
  have count : ({ s.queue with entries := s.queue.entries ++ [newEntry p z ch] } : ChangeQueue).countOf p =
      s.queue.countOf p + 1 := by
    simp [ChangeQueue.countOf, newEntry]
  have appended : offer (newEntry p z ch) s = takeNext (s.joined (newEntry p z ch)) :=
    offer_appends (key_absent new) room
  have accepted := acceptChange_unlocked (code := code) (limited := limited) (extra := []) free outcome
  rw [if_neg (fun k => nomatch k), offerResult, ite_result exact_iff, appended, bOffer,
    offered, count] at accepted
  refine ⟨exact_iff, fun applying => ?_, fun idle empty => ?_⟩
  · rw [takeNext_applying (s := s.joined (newEntry p z ch)) applying] at accepted
    exact run.trans (congrArg Host.Outcome.next accepted)
  · have one : (s.joined (newEntry p z ch)).queue.entries = [newEntry p z ch] := congrArg (· ++ [newEntry p z ch]) empty
    rw [takeNext_single (s := s.joined (newEntry p z ch)) idle one] at accepted
    exact run.trans (congrArg Host.Outcome.next accepted)

end Sys2Proof.Machine
end

section
/-! PROOFS. The event kinds of a port: what an event, NOTE_SETUP and NOTE_CLEAR make of them, the notify line and the
lead event (R182 to R185). -/

namespace Sys2Proof.Machine

-- One theorem at a time: theorems elaborated at once take a thread with its own stack each.
set_option Elab.async false

variable {s : State} {p q : Port}

/-! ### One kind of a port -/

theorem updNote_notes (s : State) (p : Port) (k m : Fin 16) (f : NoteFlag → NoteFlag) :
    ((s.updNote p k f).notes p)[m] = if m = k then f (s.notes p)[k] else (s.notes p)[m] := by
  rw [State.notes, State.updNote, State.port_updPort_same]
  by_cases h : m = k
  · subst h
    rw [if_pos rfl]
    exact Vector.getElem_set_self ..
  · rw [if_neg h]
    exact Vector.getElem_set_ne k.isLt m.isLt fun e => h (Fin.ext e.symm)

theorem updNote_port (s : State) (k : Fin 16) (f : NoteFlag → NoteFlag) (h : q ≠ p) :
    (s.updNote p k f).port q = s.port q := State.port_updPort_other s _ h

/-- An event is one kind hit (R182). -/
theorem raise_eq (s : State) (p : Port) (d : Detail) : s.raise p d = s.updNote p d.kind (·.hit d) := rfl

theorem updPort_same {f : PortState → PortState} (h : f (s.port p) = s.port p) : s.updPort p f = s := by
  have kept : s.ports.set (portPlace p) (f s.ports[portPlace p]) = s.ports :=
    (congrArg (fun x => s.ports.set (portPlace p) x) h).trans (Vector.set_getElem_self ..)
  exact congrArg (fun v => { s with ports := v }) kept

theorem raise_disabled {d : Detail} (h : (s.notes p)[d.kind].enable = false) : s.raise p d = s := by
  have kept : (s.notes p)[d.kind].hit d = (s.notes p)[d.kind] := by
    rw [NoteFlag.hit, h]
    rfl
  have flags : (s.notes p).set d.kind ((s.notes p)[d.kind].hit d) = s.notes p := by
    rw [kept]
    exact Vector.set_getElem_self ..
  exact updPort_same (congrArg (fun n => { s.port p with notes := n }) flags)

/-! ### The notify line and the lead event (R183) -/

theorem notifyLine_iff : s.notifyLine p = true ↔
    ∃ k : Fin 16, (s.notes p)[k].detail.isSome = true ∧ 1 ≤ (s.notes p)[k].level := by
  simp [State.notifyLine, allKinds]

/-- The flag of a list that leads: of the highest level, among equals of the lowest kind (R183). -/
structure Leads (level : Fin 16 → Nat) (l : List (Fin 16)) (k : Fin 16) : Prop where
  mem : k ∈ l
  first : ∀ m ∈ l, level m < level k ∨ (level m = level k ∧ k.val ≤ m.val)

theorem Leads.unique {level : Fin 16 → Nat} {l : List (Fin 16)} {j k : Fin 16} (h : Leads level l j)
    (h' : Leads level l k) : j = k := by
  have a := h.first k h'.mem
  have b := h'.first j h.mem
  exact Fin.ext (by omega)

/-- The better of the best flag so far and the next one of a list in kind order (R183). -/
def louder (level : Fin 16 → Nat) (best : Option (Fin 16)) (k : Fin 16) : Option (Fin 16) :=
  match best with
  | some b => if level b < level k then some k else some b
  | none => some k

theorem leadEvent_eq (s : State) (p : Port) :
    s.leadEvent p = (s.setFlags p).foldl (louder fun k => (s.notes p)[k].level) none := by
  unfold State.leadEvent
  congr 1

theorem louder_leads {level : Fin 16 → Nat} {l : List (Fin 16)} {a b : Fin 16} (h : Leads level l b)
    (last : ∀ m ∈ l, m < a) : ∃ k, louder level (some b) a = some k ∧ Leads level (l ++ [a]) k := by
  by_cases c : level b < level a
  · refine ⟨a, if_pos c, List.mem_append_right _ (List.mem_singleton_self a), fun m mem => ?_⟩
    rcases List.mem_append.mp mem with old | new
    · have := h.first m old
      omega
    · exact .inr ⟨by rw [List.mem_singleton.mp new], by rw [List.mem_singleton.mp new]⟩
  · refine ⟨b, if_neg c, List.mem_append_left _ h.mem, fun m mem => ?_⟩
    rcases List.mem_append.mp mem with old | new
    · exact h.first m old
    · have after := last b h.mem
      rw [List.mem_singleton.mp new]
      omega

theorem foldl_louder (level : Fin 16 → Nat) (l : List (Fin 16)) (sorted : l.Pairwise (· < ·)) :
    l = [] ∨ ∃ k, l.foldl (louder level) none = some k ∧ Leads level l k := by
  induction l using List.reverseRecOn with
  | nil => exact .inl rfl
  | append_singleton l a ih =>
    obtain ⟨before, -, last⟩ := List.pairwise_append.mp sorted
    rw [List.foldl_concat]
    rcases ih before with rfl | ⟨b, e, h⟩
    · exact .inr ⟨a, rfl, List.mem_singleton_self a, fun m mem => .inr (by simp [List.mem_singleton.mp mem])⟩
    · rw [e]
      exact .inr (louder_leads h fun m mem => last m mem a (List.mem_singleton_self a))

theorem leadEvent_iff {k : Fin 16} :
    s.leadEvent p = some k ↔ Leads (fun k => (s.notes p)[k].level) (s.setFlags p) k := by
  have sorted : (s.setFlags p).Pairwise (· < ·) := (List.pairwise_lt_finRange 16).filter _
  rw [leadEvent_eq]
  rcases foldl_louder (fun k => (s.notes p)[k].level) _ sorted with none | ⟨j, e, h⟩
  · rw [none]
    exact ⟨nofun, fun h => absurd h.mem List.not_mem_nil⟩
  · rw [e]
    exact ⟨fun e => Option.some.inj e ▸ h, fun h' => congrArg some (h.unique h')⟩

theorem mem_setFlags {k : Fin 16} : k ∈ s.setFlags p ↔ (s.notes p)[k].detail.isSome = true := by
  simp [State.setFlags, allKinds]

/-! ### NOTE_CLEAR (R185) -/

theorem kindOf_succ (k : Fin 16) : kindOf (k.val + 1) = some k := toFin_val k

theorem checkAll_kinds {l : List Nat} (h : ∀ n ∈ l, 1 ≤ n ∧ n ≤ 16) :
    ∃ ks, checkAll kindOf l = some ks ∧ ∀ k : Fin 16, k ∈ ks ↔ k.val + 1 ∈ l := by
  induction l with
  | nil => exact ⟨[], rfl, fun _ => by simp⟩
  | cons n l ih =>
    obtain ⟨ks, e, mem⟩ := ih fun m hm => h m (List.mem_cons_of_mem n hm)
    obtain ⟨low, high⟩ := h n List.mem_cons_self
    have found : kindOf n = some ⟨n - 1, by omega⟩ := by
      have same := kindOf_succ ⟨n - 1, by omega⟩
      rwa [show n - 1 + 1 = n by omega] at same
    refine ⟨⟨n - 1, by omega⟩ :: ks, by rw [checkAll, found, e]; rfl, fun k => ?_⟩
    rw [List.mem_cons, List.mem_cons, mem, Fin.ext_iff]
    exact or_congr_left (by dsimp only; omega)

theorem foldl_cleared (ks : List (Fin 16)) (m : Fin 16) (s : State) :
    ((ks.foldl (fun s k => s.updNote p k NoteFlag.cleared) s).notes p)[m] =
      if m ∈ ks then (s.notes p)[m].cleared else (s.notes p)[m] := by
  induction ks generalizing s with
  | nil => rfl
  | cons k ks ih =>
    rw [List.foldl_cons, ih, updNote_notes]
    by_cases e : m = k
    · subst e
      rw [if_pos rfl, if_pos List.mem_cons_self]
      exact ite_self _
    · rw [if_neg e]
      simp only [List.mem_cons, e, false_or]

theorem execNoteSetup_eq (takes : Takes s p) (k : Fin 16) {c : Choice} {e : Bool} (x : Int)
    (chosen : choiceBool c = some e) : ∃ payload, exec (.noteSetup p (k.val + 1) c x) s =
      .next ((s.updNote p k fun f => { f with enable := e, level := limitNat 0 7 x }).answer p 0x2C
        (if inRange 0 7 x then .ok else .okClamped) payload) :=
  ⟨_, (takes.exec rfl rfl rfl).trans (by rw [kindOf_succ, chosen]; rfl)⟩

theorem execNoteClear_eq (takes : Takes s p) {l : List Nat} (named : ∀ n ∈ l, 1 ≤ n ∧ n ≤ 16) :
    ∃ (ks : List (Fin 16)) (payload : List Byte), (∀ k : Fin 16, k ∈ ks ↔ k.val + 1 ∈ l) ∧ exec (.noteClear p l) s =
      .next ((ks.foldl (fun s k => s.updNote p k NoteFlag.cleared) s).answer p 0x2E .ok payload) := by
  obtain ⟨ks, found, mem⟩ := checkAll_kinds named
  refine ⟨allKinds.filter fun k => decide (k ∈ ks), _, fun k => ?_,
    (takes.exec rfl rfl rfl).trans (by rw [kindSet, found]; rfl)⟩
  simp [allKinds, mem]

/-- Settles O58: each kind by itself, the fold of R183 over the set flags in kind order, and the two commands. -/
theorem notesFollow : Obligations.NotesFollow := by
  intro p s
  refine ⟨fun d => ⟨fun on => ?_, raise_disabled, fun k other => ?_⟩, notifyLine_iff, fun k => ?_,
    fun takes k c e x chosen => ?_, fun takes l named => ?_⟩
  · rw [raise_eq, updNote_notes, if_pos rfl, NoteFlag.hit, if_pos on]
    rfl
  · rw [raise_eq, updNote_notes, if_neg other]
  · rw [leadEvent_iff]
    exact ⟨fun ⟨mem, first⟩ => ⟨mem_setFlags.mp mem, fun m set => first m (mem_setFlags.mpr set)⟩,
      fun ⟨set, first⟩ => ⟨mem_setFlags.mpr set, fun m mem => first m (mem_setFlags.mp mem)⟩⟩
  · obtain ⟨payload, run⟩ := execNoteSetup_eq takes k x chosen
    refine ⟨_, run, fun m => ?_, fun q other => ?_, ?_⟩
    · rw [State.answer_notes, updNote_notes]
      rfl
    · exact (State.port_updLink_other _ _ other).trans (updNote_port s k _ other)
    · simpa only [inRange, decide_eq_true_eq] using answer_replies ..
  · obtain ⟨ks, payload, mem, run⟩ := execNoteClear_eq takes named
    refine ⟨_, run, fun m => ?_, fun q other => ?_, answer_replies ..⟩
    · rw [State.answer_notes, foldl_cleared]
      simp only [mem]
      rfl
    · exact (State.port_updLink_other _ _ other).trans (List.foldlRecOn (motive := fun t => t.port q = s.port q) ks _ rfl
        fun t h k _ => (updNote_port t k _ other).trans h)

end Sys2Proof.Machine
end

section
/-! PROOFS. The probe's settings and its commands that start no run (R146, R157). -/

namespace Sys2Proof.Machine

-- One theorem at a time: theorems elaborated at once take a thread with its own stack each.
set_option Elab.async false

variable {s : State}

theorem probeFields_within (a : ProbeArg) : okResult (limitedFields (probeFields a)) =
    if (inRange 10 2000 a.period && inRange 1 48 a.width && inRange (-160) 0 a.gain &&
      inRange 1 8388607 a.threshold && inRange 1 (limitedPeriod a) a.window) = true then .ok else .okClamped := by
  rw [okResult]
  refine if_congr ?_ rfl rfl
  rw [limitedFields_nil]
  simp only [probeFields, List.all_cons, List.all_nil, Bool.and_true, Bool.and_assoc]

theorem execProbeSetup_eq (takes : Takes s .C) {a : ProbeArg} {z : Zone} {src : Fin 8} {first : Bool}
    (zone : a.zone = z.val) (source : a.source = src.val) (mode : choiceBool a.mode = some first) :
    ∃ payload, exec (.probeSetup .C a) s = .next
      ((s.updProbe fun x => { x with pending := probeSettingsOf a z src !first }).answer .C 0x1A
        (okResult (limitedFields (probeFields a))) payload) :=
  ⟨_, (takes.exec rfl rfl rfl).trans (by rw [zone, zoneOf_val, source, toFin_val, mode]; rfl)⟩

theorem execProbeStop_eq (takes : Takes s .C) :
    exec (.probeStop .C) s = .next ((probeStopped s).answer .C 0x1C .ok [byteOf s.probe.state.place]) :=
  (takes.exec rfl rfl rfl).trans rfl

theorem probeIdle_probe (z : Zone) (s : State) : (probeIdle z s).probe = { s.probe with state := .idle } :=
  ((probeDrop_only z _).same .probe (by decide)).symm

theorem probeIdle_entries (z : Zone) (s : State) : ((probeIdle z s).zone z).route.entries =
    (s.zone z).route.entries.filter fun x => decide ¬ (x.port = .C ∧ x.source = 8) := by
  rw [probeIdle, probeDrop, setRoutes_route, if_pos rfl]
  exact congrArg (List.filter · _) (funext fun x => by rw [RouteEntry.hasKey, ← decide_not])

/-- Settles O51: the limited fields of R146, and the table of R157 by the probe's state. -/
theorem probeCommands : Obligations.ProbeCommands := by
  intro s takes
  refine ⟨fun a z src first zone source mode => ?_, (takes.exec rfl rfl rfl).trans rfl, fun r still => ?_, fun e armed => ?_,
    fun waiting => ?_, fun r running => ?_⟩
  · obtain ⟨payload, run⟩ := execProbeSetup_eq takes zone source mode
    rw [probeFields_within] at run
    exact ⟨payload, run⟩
  · rw [execProbeStop_eq takes, probeStopped]
    rcases still with h | h <;> rw [h]
  · rw [execProbeStop_eq takes, probeStopped, armed]
    rfl
  · rw [execProbeStop_eq takes, probeStopped, waiting]
    exact ⟨_, rfl, probeIdle_probe .., probeIdle_entries .., answer_replies ..⟩
  · rw [execProbeStop_eq takes, probeStopped, running]
    rfl

end Sys2Proof.Machine
end

section
/-! PROOFS. The elapse of a wake time and of a drain time: the zone's power record, its gain, and what its EQ does as it
leaves LIVE and DRAINING (R102, R105, R138, R139). -/

namespace Sys2Proof.Machine

-- One theorem at a time, and a long one, marked, on a thread of its own: the compile has 22 GiB. The two linters do
-- not see into such a proof.
set_option Elab.async false
set_option linter.unusedTactic false
set_option linter.unreachableTactic false

variable {s : State} {y z : Zone} {p : PowerState}

/-! ### The EQ of a zone that is no longer heard (R99, R102) -/

theorem grantLoop_other {l : List Zone} (h : y ∉ l) (s : State) : (grantLoop l s).zone y = s.zone y := by
  induction l generalizing s with
  | nil => rfl
  | cons z l ih =>
    obtain ⟨ne, out⟩ := List.ne_and_not_mem_of_not_mem_cons h
    unfold grantLoop
    split
    · rfl
    · dsimp only
      split
      all_goals exact (ih out _).trans (State.zone_updZone_other _ _ ne)

/-- What remains of a change of the EQ unit in a zone once its EQ state is put back. -/
theorem Only.zone_eq (k : Only [.eq, .eqWait] s t) (y : Zone) : { t.zone y with eq := (s.zone y).eq } = s.zone y := by
  dsimp only
  rw [← k.same .entry (by decide) y, ← k.same .line (by decide) y, ← k.same .target (by decide) y,
    ← k.same .gain (by decide) y, ← k.same .route (by decide) y, ← k.same .power (by decide) y]

theorem eqSetUp_zone (z : Zone) (s : State) :
    ((eqSetUp z s).zone z).eq = { mode := .steady, running := Cascade.setUp (s.active z) } :=
  congrArg ZoneState.eq (State.zone_updZone_same ..)

theorem eqLeave_steady (h : (s.zone z).eq.mode = .steady) : eqLeave z s = s := by
  unfold eqLeave
  rw [h]

/-- A wait or a crossfade ends on the selected bank with zero states. -/
theorem eqLeave_ends (h : (s.zone z).eq.mode ≠ .steady) (wait : z ∈ s.eqWait → (s.zone z).eq.mode = .wait) :
    ((eqLeave z s).zone z).eq = { mode := .steady, running := Cascade.setUp (s.active z) } := by
  unfold eqLeave
  split
  · next e => exact absurd e h
  · exact eqSetUp_zone ..
  · next e =>
    have out : z ∉ s.eqWait := fun k => by rw [wait k] at e; cases e
    exact (congrArg ZoneState.eq (grantLoop_other out _)).trans (eqSetUp_zone ..)

/-! ### A power state changed (R105, R130) -/

/-- A zone's power record and gain after a change of its power state. -/
def State.powered (s : State) (z : Zone) (p : PowerState) : State :=
  (s.updPower z fun _ => { state := p, framesInState := 0, fresh := s.atMark }).updGain z fun g =>
    g.onPower (s.powerOf z) p s.sampleIndex

theorem State.powered_zone (s : State) (z : Zone) (p : PowerState) : (s.powered z p).zone z =
    { s.zone z with
      power := { state := p, framesInState := 0, fresh := s.atMark },
      gain := (s.zone z).gain.onPower (s.powerOf z) p s.sampleIndex } := by
  rw [State.powered, State.updGain, State.zone_updZone_same, State.updPower, State.zone_updZone_same]

theorem State.powered_other (h : y ≠ z) (s : State) (p : PowerState) : (s.powered z p).zone y = s.zone y :=
  (State.zone_updZone_other _ _ h).trans (State.zone_updZone_other _ _ h)

theorem setPower_heard (hp : p.heard = true) (service : p.inService = true) : setPower z p s = s.powered z p :=
  (if_pos service).trans (if_neg fun k => k.2 hp)

theorem setPower_left (old : (s.powerOf z).heard = true) (hp : p.heard = false) (service : p.inService = true) :
    setPower z p s = eqLeave z (s.powered z p) :=
  (if_pos service).trans (if_pos ⟨old, by rw [hp]; exact Bool.noConfusion⟩)

theorem probeTest_zone (s : State) (y : Zone) : (probeTest s).zone y = s.zone y := by
  unfold probeTest
  split
  · split <;> rfl
  all_goals rfl

/-! ### The two elapses (R138, R139) -/

theorem wake_due {n : Nat} (waking : s.powerOf z = .waking n)
    (due : n = 0 ∨ (s.sampleIndex = 48 ∧ n = 1 ∧ (s.zone z).power.fresh = false)) :
    ∃ b, exec (.wakeTimeElapsed z) s = .next (wakeFinish z { s with atMark := b }) := by
  refine ⟨_, congrArg Host.Outcome.next (told_due (f := wakeFinish z) ?_)⟩
  rcases due with rfl | ⟨last, rfl, fresh⟩
  · exact .inl (decide_eq_true waking)
  · exact .inr (by simp [wakeDueNext, State.frameOver, Config.samplesPerFrame, waking, last, fresh])

theorem drain_due {d n : Nat} (draining : s.powerOf z = .draining d n)
    (due : n = 0 ∨ (s.sampleIndex = 48 ∧ n = 1 ∧ (s.zone z).power.fresh = false)) :
    ∃ b, exec (.drainTimeElapsed z) s = .next (drainFinish z { s with atMark := b }) := by
  refine ⟨_, congrArg Host.Outcome.next (told_due (f := drainFinish z) ?_)⟩
  rcases due with rfl | ⟨last, rfl, fresh⟩
  · exact .inl (decide_eq_true (congrArg PowerState.drainLeft draining))
  · exact .inr (by simp [drainDueNext, State.frameOver, Config.samplesPerFrame, draining, PowerState.drainLeft, last, fresh])

theorem wakeFinish_zone (quiet : (s.powerOf z).heard = false) : (wakeFinish z s).zone z =
    { s.zone z with
      power := { state := .live, framesInState := 0, fresh := s.atMark },
      gain := { (s.zone z).gain with
        applied := 0, rampFrom := 0, rampTo := if s.sampleIndex = 0 then (s.zone z).gain.target else 0 } } := by
  have muted : (s.zone z).gain.onPower (s.powerOf z) .live s.sampleIndex = { (s.zone z).gain with
      applied := 0, rampFrom := 0, rampTo := if s.sampleIndex = 0 then (s.zone z).gain.target else 0 } :=
    (if_pos rfl).trans (if_neg (ne_true_of_eq_false quiet))
  rw [wakeFinish, probeTest_zone, setPower_heard rfl rfl, State.powered_zone, muted]

theorem wakeFinish_other (h : y ≠ z) (s : State) : (wakeFinish z s).zone y = s.zone y := by
  rw [wakeFinish, probeTest_zone, setPower_heard rfl rfl, State.powered_other h]

/-- A zone that has drained, but for its EQ. -/
theorem drainFinish_zone (heard : (s.powerOf z).heard = true) : { (drainFinish z s).zone z with eq := (s.zone z).eq } =
    { s.zone z with
      power := { state := .parked, framesInState := 0, fresh := s.atMark },
      gain := { (s.zone z).gain with applied := 0, rampFrom := 0, rampTo := 0 } } := by
  have left := (eqLeave_only z (s.powered z .parked)).zone_eq z
  rw [State.powered_zone] at left
  rw [drainFinish, probeTest_zone, setPower_left heard rfl rfl]
  exact left

theorem drainFinish_other (h : y ≠ z) (heard : (s.powerOf z).heard = true) :
    { (drainFinish z s).zone y with eq := (s.zone y).eq } = s.zone y := by
  have left := (eqLeave_only z (s.powered z .parked)).zone_eq y
  rw [State.powered_other h] at left
  rw [drainFinish, probeTest_zone, setPower_left heard rfl rfl]
  exact left

theorem drainFinish_steady (heard : (s.powerOf z).heard = true) (steady : (s.zone z).eq.mode = .steady) (y : Zone) :
    (drainFinish z s).zone y = (s.powered z .parked).zone y := by
  rw [drainFinish, probeTest_zone, setPower_left heard rfl rfl, eqLeave_steady (by rw [State.powered_zone]; exact steady)]

theorem drainFinish_ends (heard : (s.powerOf z).heard = true) (busy : (s.zone z).eq.mode ≠ .steady) (inv : EqInv s) :
    ((drainFinish z s).zone z).eq = { mode := .steady, running := Cascade.setUp (s.active z) } := by
  have ends := eqLeave_ends (s := s.powered z .parked) (z := z) (by rw [State.powered_zone]; exact busy)
    fun k => by rw [State.powered_zone]; exact (inv.1 z).mpr k
  rw [State.active, State.powered_zone] at ends
  rw [drainFinish, probeTest_zone, setPower_left heard rfl rfl]
  exact ends

set_option Elab.async true in
/-- Settles O49: both elapses change the zone's power state, after their FRAME_MARK or before it. -/
theorem powerTimesElapse : Obligations.PowerTimesElapse := by
  intro z s
  refine ⟨fun n waking due => ?_, fun d n draining due => ?_⟩
  · obtain ⟨b, run⟩ := wake_due waking due
    have own := wakeFinish_zone (s := { s with atMark := b }) (z := z) (by
      show (s.powerOf z).heard = false
      rw [waking]; rfl)
    exact ⟨_, run, fun y ne => wakeFinish_other ne _, congrArg (·.power.state) own, congrArg (·.power.framesInState) own,
      congrArg (·.gain) own, congrArg (·.eq) own, congrArg (·.route) own⟩
  · obtain ⟨b, run⟩ := drain_due draining due
    have heard : (State.powerOf { s with atMark := b } z).heard = true := by
      show (s.powerOf z).heard = true
      rw [draining]; rfl
    have own := drainFinish_zone heard
    refine ⟨_, run, congrArg (·.power.state) own, congrArg (·.power.framesInState) own, congrArg (·.gain) own,
      fun steady => ⟨?_, fun y ne => ?_⟩, fun busy inv => drainFinish_ends heard busy inv, fun y ne => drainFinish_other ne heard⟩
    · rw [drainFinish_steady heard steady, State.powered_zone]
      rfl
    · rw [drainFinish_steady heard steady, State.powered_other ne]
      rfl

end Sys2Proof.Machine
end
